-- ==== Sys2Proof/Word.lean ====
section
/-! DEFINITION. The two word types of the block (00_scope.md R13, R14): a byte is 8 bits, bit 7 the most significant;
the CRC is 16 bits, bit 15 the most significant. Everything is unsigned. -/

namespace Sys2Proof

/-- A byte: every frame field but the CRC, `pos` and `expected_id` (R13, R27). -/
abbrev Byte := BitVec 8

/-- A 16-bit value: `crc` and the transmitted CRC (R13, R21, R65). -/
abbrev Word := BitVec 16

end Sys2Proof
end

