-- ==== Sys2Proof/Machine/Arith.lean ====
section
/-! DEFINITION. The CRC arithmetic as pure functions (40_crc.md R80 to R85): polynomial 0x1021, initial value 0, no
reflection, no final XOR, most significant bit first. -/

namespace Sys2Proof.Machine

/-- `CRC_POLY` (00_scope.md R7). -/
abbrev crcPoly : Word := 0x1021

/-- `CRC_INIT` (R7). -/
abbrev crcInit : Word := 0x0000

/-- One shift step (R82): the top bit is tested before the shift, which drops it. -/
def bitstep (c : Word) : Word :=
  if c.getLsbD 15 then (c <<< 1) ^^^ crcPoly else c <<< 1

/-- `n` shift steps. -/
def bitsteps : Nat → Word → Word
  | 0, c => c
  | n + 1, c => bitsteps n (bitstep c)

/-- Fold one byte into a CRC (R84): the byte lands on bits 15:8, then exactly eight shift steps. -/
def crcByte (c : Word) (b : Byte) : Word :=
  bitsteps 8 (c ^^^ (b.zeroExtend 16 <<< 8))

/-- Fold a byte list, in rising index order, into a CRC. -/
def crcFrom : Word → List Byte → Word
  | c, [] => c
  | c, b :: bs => crcFrom (crcByte c b) bs

/-- The CRC of a byte buffer (R83); the document's `crc16`. -/
def crc16 (buf : List Byte) : Word := crcFrom crcInit buf

end Sys2Proof.Machine
end

