-- ==== Sys2Proof/Config.lean ====
section
/-! DEFINITION. What an implementation fixes before a run (00_scope.md R10 to R12, 10_state.md R35) and the free values.
The configuration is a record of plain data that the caller hands to RECV (R120, R162); State keeps the record of the
current run, and nothing but RECV changes it. -/

namespace Sys2Proof

/-- The configurable parameters of 00_scope.md section 3, with the reference behavior's defaults. -/
structure Config where
  /-- `ERR_CEILING` (R10): any natural number, 0 included. -/
  errCeiling : Nat := 100
  /-- `HANDSHAKE_RETRIES` (R11): any natural number, 0 included. -/
  handshakeRetries : Nat := 25
  /-- `COUNT_INVALID_FRAMES` (R112, D6): whether ERR.INC and ERR.CHK also run on InvalidFrame (DEDUCED, log entry 9). -/
  countInvalidFrames : Bool := false
deriving DecidableEq, Repr

/-- `HANDSHAKE_DELAY` (R12): a length of time without a value; no rule reads it, so nothing here does. DESIGN CHOICE, log
entry 18, safe. -/
opaque Config.handshakeDelay : Nat

/-- `POLL_TIMEOUT` (R12): a length of time without a value; no rule reads it, so nothing here does. DESIGN CHOICE, log
entry 18, safe. -/
opaque Config.pollTimeout : Nat

/-- Free value: what the 8-bit register number `reg` holds after the `draw`-th RECV, where R38 says "unspecified".
DESIGN CHOICE, log entry 3, safe. -/
opaque Config.unspecifiedByte (draw reg : Nat) : Byte

/-- Free value: what `crc` holds after the `draw`-th RECV, where R38 says "unspecified". DESIGN CHOICE, log entry 3, safe. -/
opaque Config.unspecifiedWord (draw : Nat) : Word

/-- Free value: the `n`-th answer of an endless sequence of answers of `ChanRead` that nothing constrains (60_exceptions.md
R156), a byte, or none for the channel error. DESIGN CHOICE, log entry 6, safe. -/
opaque Config.freeAnswer (n : Nat) : Option Byte

end Sys2Proof
end

