-- ==== Sys2Proof/Syntax.lean ====
section
/-! DEFINITION. The operations of the block as syntax: one constructor per row of spec/opcode_table.json (33 rows, R16),
the two answers of `ChanRead`, and the units of the wire formats (30_encoding.md R60 to R62). -/

namespace Sys2Proof

/-- What `ChanRead` answers (60_exceptions.md R157): a byte, or the channel error. -/
inductive Answer where
  | byte (b : Byte)
  | chanErr
deriving DecidableEq, Repr

/-- The operand of FAIL.CHAN (43_receive_controller.md R133). -/
inductive During where
  | read
  | write
deriving DecidableEq, Repr

/-- The 33 operations. An operand is what the operation's rule lists under "Operands" besides registers. -/
inductive Instr where
  /-- CRC.CLR, R81. -/
  | crcClr
  /-- CRC.BIT, R82, of a 16-bit value. -/
  | crcBit (c : Word)
  /-- CRC.BUF, R83, of a byte buffer of any length. -/
  | crcBuf (buf : List Byte)
  /-- CRC.UPD, R84, of one byte. -/
  | crcUpd (b : Byte)
  /-- RX.SOH, R91; the byte taken is 0x01. -/
  | rxSoh
  /-- RX.EOT, R92; the byte taken is 0x04. -/
  | rxEot
  /-- RX.NOISE, R93, of the byte taken. -/
  | rxNoise (b : Byte)
  /-- RX.ID, R94. -/
  | rxId (b : Byte)
  /-- RX.IDC, R95. -/
  | rxIdc (b : Byte)
  /-- RX.DATA, R96. -/
  | rxData (b : Byte)
  /-- RX.CRCH, R97. -/
  | rxCrch (b : Byte)
  /-- RX.CRCL, R98. -/
  | rxCrcl (b : Byte)
  /-- RX.ERR, R99. -/
  | rxErr
  /-- VAL.SEQ, R105. -/
  | valSeq
  /-- VAL.CMP, R106. -/
  | valCmp
  /-- VAL.CRC, R107. -/
  | valCrc
  /-- VAL.FRAME, R109. -/
  | valFrame
  /-- SEQ.INIT, R110. -/
  | seqInit
  /-- SEQ.ADV, R111. -/
  | seqAdv
  /-- ERR.INC, R112. -/
  | errInc
  /-- ERR.CLR, R113. -/
  | errClr
  /-- ERR.CHK, R114. -/
  | errChk
  /-- RECV, R120, with the configuration the caller hands over. -/
  | recv (cfg : Config)
  /-- HS.TRY, R121. -/
  | hsTry
  /-- HS.FAIL, R122. -/
  | hsFail
  /-- RSP.ACK_EOT, R126. -/
  | rspAckEot
  /-- RSP.NAK_NOISE, R127. -/
  | rspNakNoise
  /-- RSP.CAN_NOISE, R128. -/
  | rspCanNoise
  /-- RSP.SINK, R129. -/
  | rspSink
  /-- RSP.ACK_FRAME, R130. -/
  | rspAckFrame
  /-- RSP.CAN_SINK, R131, of the count the sink returned. -/
  | rspCanSink (n : Nat)
  /-- RSP.NAK_FRAME, R132. -/
  | rspNakFrame
  /-- FAIL.CHAN, R133. -/
  | failChan (during : During)
deriving DecidableEq, Repr

/-- A unit of the receive stream: a whole frame of format `FRAME` (R61), or one byte of format `CTRL_RX` (R62). -/
inductive WireUnit where
  | frame (id idc : Byte) (payload : List Byte) (crcHi crcLo : Byte)
  | eot
  | noise (b : Byte)
deriving DecidableEq, Repr

end Sys2Proof
end

