-- ==== Sys2Proof/Machine/State.lean ====
section
/-! DEFINITION. The state of the block as plain data: the twelve pieces of 10_state.md R20, and beside them the model's
own fields (configuration, control point, environment, trace), each said to be so. Also the reasons a step can stop. -/

namespace Sys2Proof.Machine

/-- A sparse byte memory: entries (address, byte) by strictly rising address. -/
abbrev Memory := List Host.Cell

/-- The four terminal causes (R32, 60_exceptions.md R140). -/
inductive Cause where
  | handshakeTimeout
  | tooManyErrors
  | sinkWriteFailure
  | channelFailure
deriving DecidableEq, Repr

/-- `cstate` (R32, D10): `Done` and every `Failed(cause)` are terminal. -/
inductive CState where
  | idle
  | negotiating
  | receiving
  | done
  | failed (cause : Cause)
deriving DecidableEq, Repr

/-- The cause bits of InvalidFrame (42_validator.md R108). -/
structure CauseBits where
  badSeq : Bool
  badCmp : Bool
  badCrc : Bool
deriving DecidableEq, Repr

/-- A raised event with the information R140 records for it. -/
inductive Raised where
  | noiseByte (b : Byte)
  | invalidFrame (bits : CauseBits)
  | handshakeTimeout
  | tooManyErrors (errCount : Nat)
  | sinkWriteFailure (n : Nat)
  /-- `pos` is recorded by RX.ERR only (41_framer.md R99). -/
  | channelFailure (during : During) (pos : Option Byte)
deriving DecidableEq, Repr

/-- What ERR.INC has counted: a noise byte, or, with `COUNT_INVALID_FRAMES`, a refused frame (R112). -/
inductive Counted where
  | noise
  | badFrame
deriving DecidableEq, Repr

/-- The event the framer hands to the controller with `emit` (41_framer.md R90). -/
inductive FramerEvent where
  | more
  | noise
  | eot
  | frame
deriving DecidableEq, Repr

/-- MODEL'S OWN (log entry 4): where in the pseudocode of LOOP.STEP (43_receive_controller.md R125) the controller stands,
that is, which answer, event or returned value its next choice is made on. -/
inductive Point where
  /-- At the top of a turn; in `Negotiating`, at the test of the handshake loop (R120). -/
  | turn
  /-- `ChanRead` has answered and RX.STEP is due. -/
  | answered (r : Answer)
  /-- `EvNoise` was emitted. -/
  | evNoise
  /-- ERR.INC has run; ERR.CHK follows at once. -/
  | counted (what : Counted)
  /-- ERR.CHK has yielded `over`. -/
  | checked (what : Counted) (isOver : Bool)
  /-- `EvEot` was emitted. -/
  | evEot
  /-- `EvFrame` was emitted. -/
  | evFrame
  /-- VAL.FRAME returned Valid. -/
  | valid
  /-- VAL.FRAME raised InvalidFrame. -/
  | invalid
  /-- RSP.SINK returned the count `n`. -/
  | sunk (n : Nat)
  /-- `ChanWrite` has answered ChanErr inside `Send` and FAIL.CHAN is due. -/
  | writeFailed
deriving DecidableEq, Repr

/-- MODEL'S OWN (log entry 4): the value an operation yields or returns to what invoked it. It is no register of the
block (10_state.md R34). -/
inductive Yield where
  | word (c : Word)
  | seqOk (b : Bool)
  | cmpOk (b : Bool)
  | crcOk (b : Bool)
  | valid (payload : List Byte)
  | invalid (bits : CauseBits)
  | overCeiling (b : Bool)
  | count (n : Nat)
deriving DecidableEq, Repr

/-- One event of a run: a capability call with its answer (20_memory.md R53), or a raised event (00_scope.md R15). -/
inductive Event where
  | read (r : Answer)
  | avail (answer : Bool)
  | write (b : Byte) (ok : Bool)
  | delay
  | sink (bytes : List Byte) (n : Nat)
  | raised (e : Raised)
deriving DecidableEq, Repr

/-- MODEL'S OWN (log entry 6): what `ChanRead` answers once the answers of the list `rx` are taken. -/
inductive Supply where
  /-- Nothing, for ever (30_encoding.md R75, 70_reset_and_hazards.md R170). -/
  | blocks
  /-- The same answers over and over, for ever (43_receive_controller.md R137: "refusing frames for ever"). -/
  | repeats (first : Answer) (rest : List Answer)
  /-- The free answers from number `n` on, for ever (60_exceptions.md R156). -/
  | free (n : Nat)
deriving DecidableEq, Repr

structure State where
  /-- `crc` (R21). -/
  crc : Word
  /-- `head` (R22). -/
  head : Byte
  /-- `id` (R23). -/
  id : Byte
  /-- `idc`, the frame's `id_complement` (R24). -/
  idc : Byte
  /-- `payload[0..127]` (R36). -/
  payload : Memory
  /-- `crc_hi` (R25). -/
  crcHi : Byte
  /-- `crc_lo` (R25). -/
  crcLo : Byte
  /-- `pos`, 0 to 132 (R27). -/
  pos : Byte
  /-- `expected_id` (R29). -/
  expectedId : Byte
  /-- `err_count` (R30). -/
  errCount : Nat
  /-- `retry_count` (R31). -/
  retryCount : Nat
  /-- `cstate` (R32). -/
  cstate : CState
  /-- Model's own: the configuration of the run (R35; log entry 5). -/
  cfg : Config
  /-- Model's own: the control point (log entry 4). -/
  ctl : Point
  /-- Model's own: the value last yielded (log entry 4). -/
  out : Option Yield
  /-- Model's own: what `ChanRead` will answer, in order (30_encoding.md R75; log entry 6). -/
  rx : List Answer
  /-- Model's own: what `ChanRead` will answer after those (R75, 43_receive_controller.md R137; log entry 6). -/
  supply : Supply
  /-- Model's own: what `ChanAvail` will answer (R75; log entry 6). -/
  avail : List Bool
  /-- Model's own: what `ChanWrite` will answer, true for Ok (R75; log entry 6). -/
  writes : List Bool
  /-- Model's own: the counts `SinkWrite` will return (R75; log entry 6). -/
  sinks : List Nat
  /-- Model's own: the RECV invocations of the caller that have not begun (60_exceptions.md R162; log entry 7). -/
  calls : List Config
  /-- Model's own: the events so far, newest first (20_memory.md R53; log entry 6). -/
  trace : List Event
  /-- Model's own: how many times free values were drawn (log entry 3). -/
  draws : Nat
deriving DecidableEq, Repr

/-- Why the model stops with a fault. -/
inductive Fault where
  /-- A byte of the payload buffer is read that nothing has written since the run began (10_state.md R39, D15). Raised by
  VAL.FRAME and RSP.SINK; safe, and no run from reset reaches it (R39). -/
  | unwrittenPayload
  /-- A payload index above 127 is accessed (00_scope.md R15). Raised by the write of RX.DATA; safe, and its position
  check keeps every index in range. -/
  | noSuchByte
deriving DecidableEq, Repr

/-- Why the model gives an instruction no meaning. -/
inductive Refusal where
  /-- The instruction has no meaning in the model yet. Raised by exec's refused arms; safe. -/
  | notModelled (mnemonic : String)
  /-- The operation is invoked outside the trigger its rule names (30_encoding.md R71, D23: "has no meaning and a model
  refuses it"). Raised by every operation with a trigger, with its mnemonic; safe. -/
  | outsideTrigger (mnemonic : String)
deriving DecidableEq, Repr

/-- The block after a hardware reset (70_reset_and_hazards.md R165, R166, 10_state.md R38): `Idle`, the session registers
and `pos` at the values of R38, nothing asked of the environment. The registers R38 leaves unspecified hold the values of
log entry 1 (DESIGN CHOICE, unsafe), which are not zero (R39). -/
def State.reset : State where
  crc := 0xFFFF
  head := 0xFF
  id := 0xFF
  idc := 0xFF
  payload := []
  crcHi := 0xFF
  crcLo := 0xFF
  pos := 0
  expectedId := 1
  errCount := 0
  retryCount := 0
  cstate := .idle
  cfg := {}
  ctl := .turn
  out := none
  rx := []
  supply := .blocks
  avail := []
  writes := []
  sinks := []
  calls := []
  trace := []
  draws := 0

end Sys2Proof.Machine
end

