-- ==== Sys2Proof/Machine/Ops.lean ====
section
/-! DEFINITION. The named operations over memory, registers and environment: the payload buffer, the five capabilities of
the Channel Adapter, `emit`, `raise` (taking an event) and the return from a recovered one, `Send`, and the small register
operations that composite operations invoke. -/

namespace Sys2Proof.Machine

/-! ### The payload buffer (20_memory.md R42) -/

/-- `BLOCK_SIZE` (00_scope.md R8). -/
abbrev blockSize : Nat := 128

/-- What an unlisted address reads as: no value (10_state.md R39; log entry 2). -/
def Memory.unlisted : Option Byte := none

/-- The canonical form: addresses strictly rising and inside the buffer. An entry never equals what an unlisted address
reads as, since that is no value. -/
abbrev Memory.wf (m : Memory) : Prop :=
  m.Pairwise (fun x y => x.1 < y.1) ∧ ∀ c ∈ m, c.1 < blockSize

/-- Read one byte. -/
def Memory.read : Memory → Nat → Option Byte
  | [], _ => Memory.unlisted
  | (a, v) :: m, i => if i = a then some v else Memory.read m i

/-- Write one byte, keeping the addresses rising. -/
def Memory.write : Memory → Nat → Byte → Memory
  | [], i, v => [(i, v)]
  | (a, w) :: m, i, v =>
    if i < a then (i, v) :: (a, w) :: m
    else if i = a then (i, v) :: m
    else (a, w) :: Memory.write m i v

/-- The `n` bytes from address `i` on, in rising order; none if one of them has no value. -/
def Memory.slice (m : Memory) (i : Nat) : Nat → Option (List Byte)
  | 0 => some []
  | n + 1 =>
    match Memory.read m i, Memory.slice m (i + 1) n with
    | some v, some vs => some (v :: vs)
    | _, _ => none

/-- `MemWrite(i, 1, v)` (R15), for `0 <= i <= 127`. -/
def State.memWrite (s : State) (i : Nat) (v : Byte) : Except Fault State :=
  if i < blockSize then .ok { s with payload := s.payload.write i v } else .error .noSuchByte

/-- `payload[0..127]`, the bytes VAL.FRAME returns and RSP.SINK hands on (R42, R46). -/
def State.block (s : State) : Option (List Byte) := s.payload.slice 0 blockSize

/-! ### Triggers (30_encoding.md R71) -/

/-- An operation invoked outside its trigger is refused, by its mnemonic (R71, D23). -/
def whenDue (due : Prop) [Decidable due] (mnemonic : String) (act : Host.Outcome State Fault Refusal) :
    Host.Outcome State Fault Refusal :=
  if due then act else .refused (.outsideTrigger mnemonic)

/-- The packet loop stands at point `p`. -/
abbrev State.stands (s : State) (p : Point) : Prop := s.cstate = .receiving ∧ s.ctl = p

/-- A byte that `ChanRead` answered is in hand. -/
def Point.holdsByte : Point → Bool
  | .answered (.byte _) => true
  | _ => false

/-- The point at which FAIL.CHAN takes over (43_receive_controller.md R133). -/
def failPoint : During → Point
  | .read => .answered .chanErr
  | .write => .writeFailed

/-- A run is in progress. -/
abbrev State.running (s : State) : Prop := s.cstate = .negotiating ∨ s.cstate = .receiving

/-! ### Events (60_exceptions.md R148 to R154) -/

/-- The terminal cause of an event; none for the two recovered ones (R140, R147). -/
def Raised.cause : Raised → Option Cause
  | .noiseByte _ => none
  | .invalidFrame _ => none
  | .handshakeTimeout => some .handshakeTimeout
  | .tooManyErrors _ => some .tooManyErrors
  | .sinkWriteFailure _ => some .sinkWriteFailure
  | .channelFailure _ _ => some .channelFailure

/-- Append an event to the one sequence of R53. -/
def State.record (s : State) (e : Event) : State := { s with trace := e :: s.trace }

/-- `raise` (R148): the event is recorded with its information; a terminal one sets `cstate` to `Failed(cause)` and ends
the run, so that no operation is due any more. Nothing is saved (R152). -/
def State.raise (s : State) (e : Raised) : State :=
  match e.cause with
  | none => s.record (.raised e)
  | some c => { s.record (.raised e) with cstate := .failed c, ctl := .turn }

/-- Return from a recovered event, and the end of any turn of the loop (R153): the next operation is `ChanRead`. -/
def State.resume (s : State) : State := { s with ctl := .turn }

/-- `emit` (00_scope.md R15): hand an event of the framer to the controller, whose choice R125 gives. -/
def State.emit (s : State) (e : FramerEvent) : State :=
  { s with ctl := match e with
      | .more => .turn
      | .noise => .evNoise
      | .eot => .evEot
      | .frame => .evFrame }

/-- Yield a value to what invoked the operation. -/
def State.yields (s : State) (y : Yield) : State := { s with out := some y }

/-! ### The five capabilities (R157 to R161): ask the environment, record the call, go on -/

/-- The `n`-th free answer (R156; log entry 6). -/
def Answer.free (n : Nat) : Answer :=
  match Config.freeAnswer n with
  | some b => .byte b
  | none => .chanErr

/-- The first answer of an endless supply and what it supplies afterwards; none if it blocks. -/
def Supply.next : Supply → Option (Answer × List Answer × Supply)
  | .blocks => none
  | .repeats first rest => some (first, rest, .repeats first rest)
  | .free n => some (Answer.free n, [], .free (n + 1))

/-- The next answer of `ChanRead`, with what is left in the list and the supply after it; none while it blocks (R157, R75). -/
def State.nextAnswer (s : State) : Option (Answer × List Answer × Supply) :=
  match s.rx with
  | [] => s.supply.next
  | r :: rest => some (r, rest, s.supply)

/-- `ChanRead()` (R157): the next answer is removed from the receive stream; none while it blocks. The answer is in hand
at point `answered`. -/
def State.chanRead (s : State) : Option (Answer × State) :=
  s.nextAnswer.map fun (r, rest, sup) =>
    (r, ({ s with rx := rest, supply := sup, ctl := .answered r } : State).record (.read r))

/-- `ChanAvail()` (R158): removes no byte; true when the script has run out (R75). It cannot
fail (DEDUCED, log entry 13). -/
def State.chanAvail (s : State) : Bool × State :=
  let answer := s.avail.headD true
  (answer, ({ s with avail := s.avail.tail } : State).record (.avail answer))

/-- `ChanWrite(b)` (R159): Ok when the script has run out (R75). -/
def State.chanWrite (s : State) (b : Byte) : Bool × State :=
  let ok := s.writes.headD true
  (ok, ({ s with writes := s.writes.tail } : State).record (.write b ok))

/-- `Delay()` (R160): recorded, and without effect on any other state. -/
def State.delay (s : State) : State := s.record .delay

/-- `SinkWrite(bytes)` (R161): 128 when the script has run out (R75). Every other
count is a failure (DEDUCED, log entry 11). -/
def State.sinkWrite (s : State) (bytes : List Byte) : Nat × State :=
  let n := s.sinks.headD blockSize
  (n, ({ s with sinks := s.sinks.tail } : State).record (.sink bytes n))

/-! ### Register operations that other operations invoke -/

/-- `crc <- 0x0000` (40_crc.md R81). -/
def State.crcClr (s : State) : State := { s with crc := crcInit }

/-- `crc <- crc_byte(crc, b)` (R84). -/
def State.crcUpd (s : State) (b : Byte) : State := { s with crc := crcByte s.crc b }

/-- `expected_id <- 0x01` (42_validator.md R110). -/
def State.seqInit (s : State) : State := { s with expectedId := 1 }

/-- `expected_id <- (expected_id + 1) mod 256` (R111). -/
def State.seqAdv (s : State) : State := { s with expectedId := s.expectedId + 1 }

/-- `err_count <- err_count + 1` (R112). -/
def State.errInc (s : State) : State := { s with errCount := s.errCount + 1 }

/-- `err_count <- 0` (R113). -/
def State.errClr (s : State) : State := { s with errCount := 0 }

/-- FAIL.CHAN (43_receive_controller.md R133): `raise ChannelFailure(during)`. -/
def State.failChan (s : State) (during : During) : State := s.raise (.channelFailure during none)

/-- `Send(b)` (43_receive_controller.md section 1): on ChanErr FAIL.CHAN(write) takes over and the rest of the invoking
operation is not done (DEDUCED, log entry 10; log entry 17). -/
def State.send (s : State) (b : Byte) (rest : State → State) : State :=
  match s.chanWrite b with
  | (true, s1) => rest s1
  | (false, s1) => ({ s1 with ctl := .writeFailed } : State).failChan .write

/-- What RECV leaves in the registers R38 marks unspecified: free values, and a payload buffer without values (R38, R39,
"no state survives across calls"; log entries 2 and 3). -/
def State.forget (s : State) : State :=
  { s with
    crc := Config.unspecifiedWord s.draws
    head := Config.unspecifiedByte s.draws 0
    id := Config.unspecifiedByte s.draws 1
    idc := Config.unspecifiedByte s.draws 2
    crcHi := Config.unspecifiedByte s.draws 3
    crcLo := Config.unspecifiedByte s.draws 4
    payload := []
    draws := s.draws + 1 }

end Sys2Proof.Machine
end

