-- ==== Sys2Proof/Machine/Operands.lean ====
section
/-! DEFINITION. The assembled operands (30_encoding.md R64 to R67) and the control symbols the block sends (00_scope.md R9,
R63). There are no immediates and nothing is extended but by zeros. -/

namespace Sys2Proof.Machine

/-- ACK (R9). -/
abbrev ack : Byte := 0x06

/-- NAK (R9). -/
abbrev nak : Byte := 0x15

/-- CAN (R9). -/
abbrev can : Byte := 0x18

/-- The CRC-mode negotiation byte `'C'` (R9). -/
abbrev crcReq : Byte := 0x43

/-- A 16-bit value from its high and low byte (R65). -/
def word (hi lo : Byte) : Word := (hi.zeroExtend 16 <<< 8) ||| lo.zeroExtend 16

/-- The high byte of a 16-bit value, bits 15:8 (R61). -/
def hiByte (c : Word) : Byte := (c >>> 8).truncate 8

/-- The low byte of a 16-bit value, bits 7:0 (R61). -/
def loByte (c : Word) : Byte := c.truncate 8

/-- `rx_crc = {crc_hi, crc_lo}`, big-endian (R43, R65). -/
def State.rxCrc (s : State) : Word := word s.crcHi s.crcLo

/-- The payload index of the byte at frame offset `pos` (R67). -/
def payloadIndex (pos : Byte) : Nat := pos.toNat - 3

end Sys2Proof.Machine
end

