-- ==== Sys2Proof/Machine/Flags.lean ====
section
/-! DEFINITION. The predicates of the block (10_state.md R34), none of them stored: the three tests of a frame, their
conjunction, their negations as cause bits, and the ceiling test (42_validator.md R105 to R109, R114). -/

namespace Sys2Proof.Machine

/-- `seq_ok` (R105). -/
def State.seqOk (s : State) : Bool := s.id = s.expectedId

/-- `cmp_ok` (R106): the sum is taken in 9 bits and reduced modulo 256. -/
def State.cmpOk (s : State) : Bool := (s.id.zeroExtend 9 + s.idc.zeroExtend 9) % 256 = 255

/-- `crc_ok` (R107), in the register form; R86 makes it the buffer form on every completed frame (DEDUCED, log entry 15,
safe). -/
def State.crcOk (s : State) : Bool := s.crc = s.rxCrc

/-- `frame_valid` (R109). -/
def State.frameValid (s : State) : Bool := s.seqOk && s.cmpOk && s.crcOk

/-- The cause bits of a frame (R108). -/
def State.causeBits (s : State) : CauseBits := ⟨!s.seqOk, !s.cmpOk, !s.crcOk⟩

/-- `over` (R114): strict, after the increment. -/
def State.overCeiling (s : State) : Bool := s.errCount > s.cfg.errCeiling

end Sys2Proof.Machine
end

