-- ==== Sys2Proof/Machine/Validator.lean ====
section
/-! DEFINITION. The validator family (42_validator.md R105 to R114): the three tests and their conjunction, the sequence
register, the error counter. -/

namespace Sys2Proof.Machine

/-- VAL.SEQ (R105): part of VAL.FRAME; yields `seq_ok` and writes no register. -/
def execValSeq (s : State) : Host.Outcome State Fault Refusal :=
  whenDue (s.stands .evFrame) "VAL.SEQ" (.next (s.yields (.seqOk s.seqOk)))

/-- VAL.CMP (R106): part of VAL.FRAME; yields `cmp_ok`. -/
def execValCmp (s : State) : Host.Outcome State Fault Refusal :=
  whenDue (s.stands .evFrame) "VAL.CMP" (.next (s.yields (.cmpOk s.cmpOk)))

/-- VAL.CRC (R107): part of VAL.FRAME; yields `crc_ok`. -/
def execValCrc (s : State) : Host.Outcome State Fault Refusal :=
  whenDue (s.stands .evFrame) "VAL.CRC" (.next (s.yields (.crcOk s.crcOk)))

/-- VAL.FRAME (R109): on `EvFrame` and at no other time. Valid returns the payload unchanged; otherwise InvalidFrame is
raised with the three cause bits (R108, R150). No register is written. -/
def execValFrame (s : State) : Host.Outcome State Fault Refusal :=
  whenDue (s.stands .evFrame) "VAL.FRAME"
    (if s.frameValid then
      match s.block with
      | none => .fault .unwrittenPayload
      | some p => .next (({ s with ctl := .valid } : State).yields (.valid p))
    else
      .next ((({ s with ctl := .invalid } : State).yields (.invalid s.causeBits)).raise (.invalidFrame s.causeBits)))

/-- SEQ.INIT (R110): invoked by RECV while `cstate` is `Idle`. -/
def execSeqInit (s : State) : Host.Outcome State Fault Refusal :=
  whenDue (s.cstate = .idle) "SEQ.INIT" (.next s.seqInit)

/-- SEQ.ADV (R111): invoked by RSP.ACK_FRAME, that is, after the sink has taken all 128 bytes of a valid frame. -/
def execSeqAdv (s : State) : Host.Outcome State Fault Refusal :=
  whenDue (s.stands (.sunk blockSize)) "SEQ.ADV" (.next s.seqAdv)

/-- What ERR.INC has to count: a noise byte, or, with `COUNT_INVALID_FRAMES`, a refused frame (R112; log entry 9). -/
def State.toCount (s : State) : Option Counted :=
  if s.stands .evNoise then some .noise
  else if s.stands .invalid ∧ s.cfg.countInvalidFrames = true then some .badFrame
  else none

/-- ERR.INC (R112): ERR.CHK follows at once. -/
def execErrInc (s : State) : Host.Outcome State Fault Refusal :=
  match s.toCount with
  | some what => .next { s.errInc with ctl := .counted what }
  | none => .refused (.outsideTrigger "ERR.INC")

/-- ERR.CLR (R113): invoked by RSP.ACK_FRAME and, while `cstate` is `Idle`, by RECV. -/
def execErrClr (s : State) : Host.Outcome State Fault Refusal :=
  whenDue (s.stands (.sunk blockSize) ∨ s.cstate = .idle) "ERR.CLR" (.next s.errClr)

/-- What ERR.INC has just counted (R114: "immediately after every ERR.INC"). -/
def State.justCounted (s : State) : Option Counted :=
  match s.cstate, s.ctl with
  | .receiving, .counted what => some what
  | _, _ => none

/-- ERR.CHK (R114): yields `over`. -/
def execErrChk (s : State) : Host.Outcome State Fault Refusal :=
  match s.justCounted with
  | some what => .next (({ s with ctl := .checked what s.overCeiling } : State).yields (.overCeiling s.overCeiling))
  | none => .refused (.outsideTrigger "ERR.CHK")

end Sys2Proof.Machine
end

