-- ==== Sys2Proof/Machine/Controller.lean ====
section
/-! DEFINITION. The controller family (43_receive_controller.md R120 to R133). The loops of RECV and LOOP.STEP are the
fetch of the next operation (Machine/Fetch.lean). -/

namespace Sys2Proof.Machine

/-- RECV (R120, R165): the reset of a run, then the handshake. It takes no state from an earlier run (R167). -/
def execRecv (cfg : Config) (s : State) : Host.Outcome State Fault Refusal :=
  let s0 : State := { s.forget with cstate := .idle, cfg := cfg, ctl := .turn, out := none }
  let s1 : State := { s0.seqInit.errClr with retryCount := 0, pos := 0 }
  .next { s1 with cstate := .negotiating }

/-- The end of a handshake attempt whose `'C'` was written (R121): one poll, and a delay if it answers false, after the
last attempt too (DEDUCED, log entry 12). -/
def State.poll (s : State) : State :=
  match s.chanAvail with
  | (true, s1) => { s1 with cstate := .receiving }
  | (false, s1) => s1.delay

/-- HS.TRY (R121): one `'C'`, one poll, and a delay if the poll answers false. -/
def execHsTry (s : State) : Host.Outcome State Fault Refusal :=
  whenDue (s.cstate = .negotiating ∧ s.ctl = .turn ∧ s.retryCount < s.cfg.handshakeRetries) "HS.TRY"
    (.next (({ s with retryCount := s.retryCount + 1 } : State).send crcReq State.poll))

/-- HS.FAIL (R122): HandshakeTimeout; nothing is sent. -/
def execHsFail (s : State) : Host.Outcome State Fault Refusal :=
  whenDue (s.cstate = .negotiating ∧ s.ctl = .turn ∧ s.retryCount = s.cfg.handshakeRetries) "HS.FAIL"
    (.next (s.raise .handshakeTimeout))

/-- RSP.ACK_EOT (R126): the only success. -/
def execRspAckEot (s : State) : Host.Outcome State Fault Refusal :=
  whenDue (s.stands .evEot) "RSP.ACK_EOT"
    (.next (s.send ack fun s1 => ({ s1 with cstate := .done } : State).resume))

/-- RSP.NAK_NOISE (R127). -/
def execRspNakNoise (s : State) : Host.Outcome State Fault Refusal :=
  whenDue (s.stands (.checked .noise false)) "RSP.NAK_NOISE" (.next (s.send nak State.resume))

/-- RSP.CAN_NOISE (R128): CAN, then TooManyErrors. With `COUNT_INVALID_FRAMES` the refused frame that passes the ceiling
is answered in the same way (log entry 9). -/
def execRspCanNoise (s : State) : Host.Outcome State Fault Refusal :=
  whenDue (s.stands (.checked .noise true) ∨ s.stands (.checked .badFrame true)) "RSP.CAN_NOISE"
    (.next (s.send can fun s1 => s1.raise (.tooManyErrors s1.errCount)))

/-- RSP.SINK (R129): all 128 bytes, in index order, once. -/
def execRspSink (s : State) : Host.Outcome State Fault Refusal :=
  whenDue (s.stands .valid) "RSP.SINK"
    (match s.block with
      | none => .fault .unwrittenPayload
      | some p =>
        match s.sinkWrite p with
        | (n, s1) => .next (({ s1 with ctl := .sunk n } : State).yields (.count n)))

/-- RSP.ACK_FRAME (R130): the registers move, then ACK. -/
def execRspAckFrame (s : State) : Host.Outcome State Fault Refusal :=
  whenDue (s.stands (.sunk blockSize)) "RSP.ACK_FRAME" (.next (s.seqAdv.errClr.send ack State.resume))

/-- RSP.CAN_SINK (R131): CAN, then SinkWriteFailure with the count. -/
def execRspCanSink (n : Nat) (s : State) : Host.Outcome State Fault Refusal :=
  whenDue (s.stands (.sunk n) ∧ n ≠ blockSize) "RSP.CAN_SINK"
    (.next (s.send can fun s1 => s1.raise (.sinkWriteFailure n)))

/-- RSP.NAK_FRAME (R132): after InvalidFrame; with `COUNT_INVALID_FRAMES`, after its count was found under the ceiling
(R112; log entry 9). -/
def execRspNakFrame (s : State) : Host.Outcome State Fault Refusal :=
  whenDue ((s.stands .invalid ∧ s.cfg.countInvalidFrames = false) ∨ s.stands (.checked .badFrame false))
    "RSP.NAK_FRAME" (.next (s.send nak State.resume))

/-- FAIL.CHAN (R133): after `ChanRead` or `ChanWrite` answered ChanErr, in any state of the run. -/
def execFailChan (during : During) (s : State) : Host.Outcome State Fault Refusal :=
  whenDue (s.running ∧ s.ctl = failPoint during) "FAIL.CHAN" (.next (s.failChan during))

end Sys2Proof.Machine
end

