-- ==== Sys2Proof/WellFormed.lean ====
section
/-! DEFINITION. Which terms of the syntax stand for an operation or a unit at all. Operands are typed by width, so three
checks are left: a noise byte is neither SOH nor EOT (30_encoding.md R68), the count RSP.CAN_SINK reports is not 128
(43_receive_controller.md R131), and a frame's payload is 128 bytes (R61, 00_scope.md R8). -/

namespace Sys2Proof

/-- The operation's operands are ones its rule admits. -/
def Instr.wf : Instr → Bool
  | .rxNoise b => b ≠ 0x01 ∧ b ≠ 0x04
  | .rspCanSink n => n ≠ 128
  | .crcClr | .crcBit _ | .crcBuf _ | .crcUpd _ | .rxSoh | .rxEot | .rxId _ | .rxIdc _ | .rxData _ | .rxCrch _
  | .rxCrcl _ | .rxErr | .valSeq | .valCmp | .valCrc | .valFrame | .seqInit | .seqAdv | .errInc | .errClr | .errChk
  | .recv _ | .hsTry | .hsFail | .rspAckEot | .rspNakNoise | .rspCanNoise | .rspSink | .rspAckFrame | .rspNakFrame
  | .failChan _ => true

/-- The unit is one the wire formats admit. -/
def WireUnit.wf : WireUnit → Bool
  | .frame _ _ payload _ _ => payload.length = 128
  | .eot => true
  | .noise b => b ≠ 0x01 ∧ b ≠ 0x04

end Sys2Proof
end

