-- ==== Sys2Proof/Decode.lean ====
section
/-! DEFINITION. Decoding and encoding (30_encoding.md). What selects an operation is the position `pos` and the answer of
`ChanRead` (R68 to R70); every byte value is legal at every position (R73), so the decoder of a single answer is total.
The decoder of whole units (R60 to R62, R74) rejects, by name, a stream that ends inside a unit. -/

namespace Sys2Proof

/-- SOH, the frame-start byte (00_scope.md R9). -/
abbrev soh : Byte := 0x01

/-- EOT, the end-of-transmission byte (R9). -/
abbrev eot : Byte := 0x04

/-- Decode of the byte at the head position (R68): exact match on all 8 bits. -/
def decodeHead (b : Byte) : Instr :=
  if b = soh then .rxSoh else if b = eot then .rxEot else .rxNoise b

/-- Decode of a byte by position (R68, R69, in the order of RX.STEP, 41_framer.md R90). Positions above 132 are never
reached; R90's last branch takes them (DEDUCED, log entry 16, safe). -/
def decodeByte (pos b : Byte) : Instr :=
  if pos = 0 then decodeHead b
  else if pos = 1 then .rxId b
  else if pos = 2 then .rxIdc b
  else if pos ≤ 130 then .rxData b
  else if pos = 131 then .rxCrch b
  else .rxCrcl b

/-- Decode of one answer of `ChanRead` (R90): a channel error selects RX.ERR at any position (R70). -/
def decode (pos : Byte) : Answer → Instr
  | .byte b => decodeByte pos b
  | .chanErr => .rxErr

/-- The bytes an operation takes from the receive stream: one byte for the operations of formats `FRAME` and `CTRL_RX`,
none for the others (R71). -/
def encode : Instr → List Byte
  | .rxSoh => [soh]
  | .rxEot => [eot]
  | .rxNoise b | .rxId b | .rxIdc b | .rxData b | .rxCrch b | .rxCrcl b => [b]
  | .crcClr | .crcBit _ | .crcBuf _ | .crcUpd _ | .rxErr | .valSeq | .valCmp | .valCrc | .valFrame | .seqInit | .seqAdv
  | .errInc | .errClr | .errChk | .recv _ | .hsTry | .hsFail | .rspAckEot | .rspNakNoise | .rspCanNoise | .rspSink
  | .rspAckFrame | .rspCanSink _ | .rspNakFrame | .failChan _ => []

/-- The positions at which an operation with an encoding is selected (the tables of R68 and R69). -/
def encodesAt (pos : Byte) : Instr → Bool
  | .rxSoh | .rxEot | .rxNoise _ => pos = 0
  | .rxId _ => pos = 1
  | .rxIdc _ => pos = 2
  | .rxData _ => 3 ≤ pos ∧ pos ≤ 130
  | .rxCrch _ => pos = 131
  | .rxCrcl _ => pos = 132
  | .crcClr | .crcBit _ | .crcBuf _ | .crcUpd _ | .rxErr | .valSeq | .valCmp | .valCrc | .valFrame | .seqInit | .seqAdv
  | .errInc | .errClr | .errChk | .recv _ | .hsTry | .hsFail | .rspAckEot | .rspNakNoise | .rspCanNoise | .rspSink
  | .rspAckFrame | .rspCanSink _ | .rspNakFrame | .failChan _ => false

/-- The byte an operation sends on the transmit stream (R63, R72; the `sends` keys of the table). -/
def sends : Instr → Option Byte
  | .hsTry => some 0x43
  | .rspAckEot | .rspAckFrame => some 0x06
  | .rspNakNoise | .rspNakFrame => some 0x15
  | .rspCanNoise | .rspCanSink _ => some 0x18
  | .crcClr | .crcBit _ | .crcBuf _ | .crcUpd _ | .rxSoh | .rxEot | .rxNoise _ | .rxId _ | .rxIdc _ | .rxData _
  | .rxCrch _ | .rxCrcl _ | .rxErr | .valSeq | .valCmp | .valCrc | .valFrame | .seqInit | .seqAdv | .errInc | .errClr
  | .errChk | .recv _ | .hsFail | .rspSink | .failChan _ => none

/-- Why a byte list is not the beginning of a unit. -/
inductive DecodeError where
  /-- There is no byte to classify. -/
  | noByte
  /-- The list ends inside a frame. -/
  | truncatedFrame
deriving DecidableEq, Repr

/-- The 132 bytes that follow SOH (R61, R69): id, complement, 128 payload bytes, CRC high byte, CRC low byte. -/
def decodeFrame : List Byte → Except DecodeError (WireUnit × List Byte)
  | id :: idc :: body =>
    match body.drop 128 with
    | crcHi :: crcLo :: rest => .ok (.frame id idc (body.take 128) crcHi crcLo, rest)
    | _ => .error .truncatedFrame
  | _ => .error .truncatedFrame

/-- The first unit of a byte list and the rest; the first byte alone decides the length (R74). -/
def decodeUnit : List Byte → Except DecodeError (WireUnit × List Byte)
  | [] => .error .noByte
  | b :: rest =>
    if b = soh then decodeFrame rest else if b = eot then .ok (.eot, rest) else .ok (.noise b, rest)

/-- The bytes of a unit (R61, R62); for a frame this is `RAWFRAME` of R76. -/
def encodeUnit : WireUnit → List Byte
  | .frame id idc payload crcHi crcLo => soh :: id :: idc :: (payload ++ [crcHi, crcLo])
  | .eot => [eot]
  | .noise b => [b]

/-- A byte list as one number, the first byte most significant. On the 133 bytes of a frame it is the 1064-bit word of R61,
with `head` at bits 1063:1056 and `crc_lo` at bits 7:0; on a single byte it is bits 7:0 (R62). -/
def bytesWord : List Byte → Nat
  | [] => 0
  | b :: bs => b.toNat * 256 ^ bs.length + bytesWord bs

/-- The `n` bytes of a number, the most significant first (R60, R61). -/
def wordBytes : Nat → Nat → List Byte
  | 0, _ => []
  | n + 1, w => BitVec.ofNat 8 (w / 256 ^ n) :: wordBytes n w

/-- The bytes of a word of `nbits` bits in the order in which they arrive, the bits numbered as R61 and the pattern of
spec/opcode_table.json number them: the first byte holds the most significant bits (log entry 7). -/
def tableBytes (nbits w : Nat) : List Byte := wordBytes ((nbits + 7) / 8) w

/-- The operation the decoder reads from a table word. An operation takes one byte, and the table's words are taken at
the head position, where the value of the byte counts (R68). -/
def decodeTableWord (nbits w : Nat) : Option Instr :=
  (tableBytes nbits w).head?.map (decodeByte 0)

end Sys2Proof
end

