-- ==== Sys2Proof/Machine/CrcUnit.lean ====
section
/-! DEFINITION. The CRC family (40_crc.md): CRC.CLR, CRC.BIT, CRC.BUF, CRC.UPD. None has a wire encoding; each is invoked
by another operation, and its trigger is the point at which that operation runs (30_encoding.md R71, D23). -/

namespace Sys2Proof.Machine

/-- CRC.CLR (R81): invoked by RX.SOH, and as CRC.BUF's first step inside VAL.CRC (log entry 14). -/
def execCrcClr (s : State) : Host.Outcome State Fault Refusal :=
  whenDue ((s.stands (.answered (.byte soh)) ∧ s.pos = 0) ∨ s.stands .evFrame) "CRC.CLR" (.next s.crcClr)

/-- CRC.BIT (R82): a pure function of `c`, used inside CRC.UPD, that is, while RX.DATA has a byte in hand. -/
def execCrcBit (c : Word) (s : State) : Host.Outcome State Fault Refusal :=
  whenDue (s.cstate = .receiving ∧ s.ctl.holdsByte = true ∧ 3 ≤ s.pos ∧ s.pos ≤ 130) "CRC.BIT"
    (.next (s.yields (.word (bitstep c))))

/-- CRC.BUF (R83): a pure function of the buffer; VAL.CRC, the script notation and the test vectors use it, so no state
is outside its trigger (log entry 14). -/
def execCrcBuf (buf : List Byte) (s : State) : Host.Outcome State Fault Refusal :=
  .next (s.yields (.word (crc16 buf)))

/-- CRC.UPD (R84): invoked by RX.DATA on the byte in hand. -/
def execCrcUpd (b : Byte) (s : State) : Host.Outcome State Fault Refusal :=
  whenDue (s.stands (.answered (.byte b)) ∧ 3 ≤ s.pos ∧ s.pos ≤ 130) "CRC.UPD" (.next (s.crcUpd b))

end Sys2Proof.Machine
end

