-- ==== Sys2Proof/Machine/Framer.lean ====
section
/-! DEFINITION. The framer family (41_framer.md R90 to R100): one operation per answer of `ChanRead`. The trigger of each
is the byte in hand and the position that select it (30_encoding.md R68 to R70). -/

namespace Sys2Proof.Machine

/-- RX.SOH (R91): a frame starts. -/
def execRxSoh (s : State) : Host.Outcome State Fault Refusal :=
  whenDue (s.stands (.answered (.byte soh)) ∧ s.pos = 0) "RX.SOH"
    (.next (({ ({ s with head := soh } : State).crcClr with pos := 1 } : State).emit .more))

/-- RX.EOT (R92): no more frames. -/
def execRxEot (s : State) : Host.Outcome State Fault Refusal :=
  whenDue (s.stands (.answered (.byte eot)) ∧ s.pos = 0) "RX.EOT"
    (.next (({ s with head := eot, pos := 0 } : State).emit .eot))

/-- RX.NOISE (R93, R141): a head byte that starts nothing; the event NoiseByte is raised. -/
def execRxNoise (b : Byte) (s : State) : Host.Outcome State Fault Refusal :=
  whenDue (s.stands (.answered (.byte b)) ∧ s.pos = 0 ∧ b ≠ soh ∧ b ≠ eot) "RX.NOISE"
    (.next ((({ s with head := b, pos := 0 } : State).emit .noise).raise (.noiseByte b)))

/-- RX.ID (R94). -/
def execRxId (b : Byte) (s : State) : Host.Outcome State Fault Refusal :=
  whenDue (s.stands (.answered (.byte b)) ∧ s.pos = 1) "RX.ID"
    (.next (({ s with id := b, pos := 2 } : State).emit .more))

/-- RX.IDC (R95). -/
def execRxIdc (b : Byte) (s : State) : Host.Outcome State Fault Refusal :=
  whenDue (s.stands (.answered (.byte b)) ∧ s.pos = 2) "RX.IDC"
    (.next (({ s with idc := b, pos := 3 } : State).emit .more))

/-- RX.DATA (R96): store the byte, fold it into the CRC, go on. -/
def execRxData (b : Byte) (s : State) : Host.Outcome State Fault Refusal :=
  whenDue (s.stands (.answered (.byte b)) ∧ 3 ≤ s.pos ∧ s.pos ≤ 130) "RX.DATA"
    (match s.memWrite (payloadIndex s.pos) b with
      | .error f => .fault f
      | .ok s1 => .next (({ s1.crcUpd b with pos := s.pos + 1 } : State).emit .more))

/-- RX.CRCH (R97): `crc` is not updated. -/
def execRxCrch (b : Byte) (s : State) : Host.Outcome State Fault Refusal :=
  whenDue (s.stands (.answered (.byte b)) ∧ s.pos = 131) "RX.CRCH"
    (.next (({ s with crcHi := b, pos := 132 } : State).emit .more))

/-- RX.CRCL (R98): the frame is complete. -/
def execRxCrcl (b : Byte) (s : State) : Host.Outcome State Fault Refusal :=
  whenDue (s.stands (.answered (.byte b)) ∧ s.pos = 132) "RX.CRCL"
    (.next (({ s with crcLo := b, pos := 0 } : State).emit .frame))

/-- RX.ERR (R99): ChannelFailure with the position, at any position; no register is changed. -/
def execRxErr (s : State) : Host.Outcome State Fault Refusal :=
  whenDue (s.stands (.answered .chanErr)) "RX.ERR" (.next (s.raise (.channelFailure .read (some s.pos))))

end Sys2Proof.Machine
end

