-- ==== Sys2Proof/Machine/Dispatch.lean ====
section
/-! DEFINITION. The meaning of every operation, one arm per constructor. -/

namespace Sys2Proof.Machine

def exec (i : Instr) (s : State) : Host.Outcome State Fault Refusal :=
  match i with
  | .crcClr => Sys2Proof.Machine.execCrcClr s
  | .crcBit c => Sys2Proof.Machine.execCrcBit c s
  | .crcBuf buf => Sys2Proof.Machine.execCrcBuf buf s
  | .crcUpd b => Sys2Proof.Machine.execCrcUpd b s
  | .rxSoh => Sys2Proof.Machine.execRxSoh s
  | .rxEot => Sys2Proof.Machine.execRxEot s
  | .rxNoise b => Sys2Proof.Machine.execRxNoise b s
  | .rxId b => Sys2Proof.Machine.execRxId b s
  | .rxIdc b => Sys2Proof.Machine.execRxIdc b s
  | .rxData b => Sys2Proof.Machine.execRxData b s
  | .rxCrch b => Sys2Proof.Machine.execRxCrch b s
  | .rxCrcl b => Sys2Proof.Machine.execRxCrcl b s
  | .rxErr => Sys2Proof.Machine.execRxErr s
  | .valSeq => Sys2Proof.Machine.execValSeq s
  | .valCmp => Sys2Proof.Machine.execValCmp s
  | .valCrc => Sys2Proof.Machine.execValCrc s
  | .valFrame => Sys2Proof.Machine.execValFrame s
  | .seqInit => Sys2Proof.Machine.execSeqInit s
  | .seqAdv => Sys2Proof.Machine.execSeqAdv s
  | .errInc => Sys2Proof.Machine.execErrInc s
  | .errClr => Sys2Proof.Machine.execErrClr s
  | .errChk => Sys2Proof.Machine.execErrChk s
  | .recv cfg => Sys2Proof.Machine.execRecv cfg s
  | .hsTry => Sys2Proof.Machine.execHsTry s
  | .hsFail => Sys2Proof.Machine.execHsFail s
  | .rspAckEot => Sys2Proof.Machine.execRspAckEot s
  | .rspNakNoise => Sys2Proof.Machine.execRspNakNoise s
  | .rspCanNoise => Sys2Proof.Machine.execRspCanNoise s
  | .rspSink => Sys2Proof.Machine.execRspSink s
  | .rspAckFrame => Sys2Proof.Machine.execRspAckFrame s
  | .rspCanSink n => Sys2Proof.Machine.execRspCanSink n s
  | .rspNakFrame => Sys2Proof.Machine.execRspNakFrame s
  | .failChan during => Sys2Proof.Machine.execFailChan during s

end Sys2Proof.Machine
end

