-- ==== Sys2Proof/Machine/Fetch.lean ====
section
/-! DEFINITION. The control of the block: which operation is due (the loops of RECV, 43_receive_controller.md R120; the
dispatch of LOOP.STEP, R125; of RX.STEP, 41_framer.md R90) and the state it runs in, `ChanRead` having been made where an
answer is needed. -/

namespace Sys2Proof.Machine

/-- The operation due at a point of LOOP.STEP other than its top (R125; with `COUNT_INVALID_FRAMES`, R112 and log
entry 9). None at the top. -/
def State.due (s : State) : Option Instr :=
  match s.ctl with
  | .turn => none
  | .answered r => some (decode s.pos r)
  | .evNoise => some .errInc
  | .counted _ => some .errChk
  | .checked _ true => some .rspCanNoise
  | .checked .noise false => some .rspNakNoise
  | .checked .badFrame false => some .rspNakFrame
  | .evEot => some .rspAckEot
  | .evFrame => some .valFrame
  | .valid => some .rspSink
  | .invalid => some (if s.cfg.countInvalidFrames then .errInc else .rspNakFrame)
  | .sunk n => some (if n = blockSize then .rspAckFrame else .rspCanSink n)
  | .writeFailed => some (.failChan .write)

/-- One turn of the handshake loop (R120). What an operation invokes is done inside its step (DESIGN CHOICE, log entry 17,
safe). -/
def State.dueHandshake (s : State) : Instr :=
  if s.ctl = .writeFailed then .failChan .write
  else if s.retryCount = s.cfg.handshakeRetries then .hsFail
  else .hsTry

/-- The next operation and the state it runs in. None where the block makes no move: in `Idle`, `Done` and `Failed(_)`
until the caller invokes RECV (R134, R166), and at a `ChanRead` that blocks (70_reset_and_hazards.md R170). -/
def State.fetch (s : State) : Option (Instr × State) :=
  match s.cstate with
  | .idle | .done | .failed _ =>
    match s.calls with
    | [] => none
    | cfg :: rest => some (.recv cfg, { s with calls := rest })
  | .negotiating => some (s.dueHandshake, s)
  | .receiving =>
    match s.due with
    | some i => some (i, s)
    | none => s.chanRead.map fun (r, s1) => (decode s.pos r, s1)

/-- The byte answers a table word stands for (spec/opcode_table.json's numbering), put in front of the receive stream of
a block that hunts for a head byte in the packet loop. -/
def State.offerBytes (s : State) (bytes : List Byte) : State :=
  { s with cstate := .receiving, ctl := .turn, pos := 0, rx := bytes.map .byte ++ s.rx }

end Sys2Proof.Machine
end

