-- ==== Sys2Proof/Machine/Step.lean ====
section
/-! DEFINITION. One step: fetch the operation that is due and run it (92_eei_decisions.md D1: "one step is one
operation"). -/

namespace Sys2Proof.Machine

/-- Where no operation is due the block makes no move and its state stays as it is (R134, R170; log entry 8). -/
def step (s : State) : Host.Outcome State Fault Refusal :=
  match s.fetch with
  | none => .next s
  | some (i, s1) => exec i s1

/-- `s` with a table word as the next bytes of the receive stream, in the packet loop at the head position, so that the
next step takes its first byte (log entry 7). -/
def State.withFetchWord (s : State) (nbits w : Nat) : State := s.offerBytes (tableBytes nbits w)

end Sys2Proof.Machine
end

