-- ==== Sys2Proof/Machine/Script.lean ====
section
/-! DEFINITION. The script and trace notation (30_encoding.md R75, R76) and the result of a run (43_receive_controller.md
R136): what the environment will answer, put into a state, and what a run shows, read from its events. -/

namespace Sys2Proof.Machine

/-- A script (R75). -/
structure Script where
  rx : List Answer := []
  /-- What follows the list: R75's notation has only `blocks`, its default. -/
  supply : Supply := .blocks
  avail : List Bool := []
  sinks : List Nat := []
  writes : List Bool := []
deriving DecidableEq, Repr

/-- A state whose environment will answer by the script. -/
def State.withScript (s : State) (sc : Script) : State :=
  { s with rx := sc.rx, supply := sc.supply, avail := sc.avail, sinks := sc.sinks, writes := sc.writes }

/-- The caller invokes RECV (60_exceptions.md R162): the invocation waits until the block can begin it. -/
def State.invoke (s : State) (cfg : Config) : State := { s with calls := s.calls ++ [cfg] }

/-- `RAWFRAME(id, idc, P, c)` (R76). -/
def rawFrame (id idc : Byte) (payload : List Byte) (c : Word) : List Byte :=
  encodeUnit (.frame id idc payload (hiByte c) (loByte c))

/-- `FRAME(id, P)` (R76): what a correct sender builds. -/
def goodFrame (id : Byte) (payload : List Byte) : List Byte := rawFrame id (255 - id) payload (crc16 payload)

/-- The byte an event puts on the transmit stream: a `ChanWrite` that answered Ok. -/
def Event.sent : Event → Option Byte
  | .write b true => some b
  | _ => none

/-- The byte an event passes to `ChanWrite`, whatever the answer (60_exceptions.md R159). -/
def Event.passed : Event → Option Byte
  | .write b _ => some b
  | _ => none

/-- The payload an event hands to the sink. -/
def Event.sunk : Event → Option (List Byte)
  | .sink bytes _ => some bytes
  | _ => none

/-- The block an event leaves in the sink: the payload of a call that took all 128 bytes (20_memory.md R40, R50). -/
def Event.taken : Event → Option (List Byte)
  | .sink bytes n => if n = blockSize then some bytes else none
  | _ => none

/-- The transmit stream, in order (R40, `TX` of R75). -/
def State.tx (s : State) : List Byte := s.trace.reverse.filterMap Event.sent

/-- The payloads passed to `SinkWrite`, in order (`SINKW` of R75). -/
def State.sinkw (s : State) : List (List Byte) := s.trace.reverse.filterMap Event.sunk

/-- The blocks the sink has accepted, in order of acceptance (R40). -/
def State.sink (s : State) : List (List Byte) := s.trace.reverse.filterMap Event.taken

/-- The number of `Delay` calls (`DELAY` of R75). -/
def State.delays (s : State) : Nat := s.trace.count .delay

/-- The number of `ChanRead` calls that returned (`READS`, 95_test_vectors.md section 6). -/
def State.reads (s : State) : Nat :=
  (s.trace.filter fun e => match e with
    | .read _ => true
    | _ => false).length

/-- The result of RECV (R136): none until the run is over. -/
inductive Result where
  | ok
  | failed (cause : Cause)
deriving DecidableEq, Repr

/-- The result of RECV: one value, `Ok` or the cause (R136). -/
def State.result (s : State) : Option Result :=
  match s.cstate with
  | .done => some .ok
  | .failed c => some (.failed c)
  | .idle | .negotiating | .receiving => none

/-- The code of a terminal cause (60_exceptions.md R140). -/
def Cause.code : Cause → BitVec 3
  | .handshakeTimeout => 3
  | .tooManyErrors => 4
  | .sinkWriteFailure => 5
  | .channelFailure => 6

/-- The code of a result on a status output (R136, R140). -/
def Result.code : Result → BitVec 3
  | .ok => 0
  | .failed c => c.code

/-- The code of an event (R140). -/
def Raised.code : Raised → BitVec 3
  | .noiseByte _ => 1
  | .invalidFrame _ => 2
  | .handshakeTimeout => Cause.handshakeTimeout.code
  | .tooManyErrors _ => Cause.tooManyErrors.code
  | .sinkWriteFailure _ => Cause.sinkWriteFailure.code
  | .channelFailure _ _ => Cause.channelFailure.code

end Sys2Proof.Machine
end

