-- ==== Sys2Proof/Safety.lean ====
section
/-! DEFINITION. What counts as a safe state and a safe run, in the terms the statements use: the invariant of the states
between two steps, the stuck state, and the terminal states. -/

namespace Sys2Proof.Machine

/-- The control stands between two operations: no answer of the channel is half taken (60_exceptions.md R152). -/
def Point.settled : Point → Bool
  | .answered _ | .writeFailed => false
  | .turn | .evNoise | .counted _ | .checked _ _ | .evEot | .evFrame | .valid | .invalid | .sunk _ => true

/-- The payload bytes of the current frame that are in the buffer: those taken so far inside a frame, all 128 from
`EvFrame` until the frame is answered, and none that count otherwise (20_memory.md R42, R54). -/
def State.framed (s : State) : Option Nat :=
  if s.pos ≠ 0 then some (min (s.pos.toNat - 3) blockSize)
  else match s.ctl with
    | .evFrame | .valid | .invalid | .sunk _ => some blockSize
    | .turn | .answered _ | .evNoise | .counted _ | .checked _ _ | .evEot | .writeFailed => none

/-- A terminal failure (10_state.md R32). -/
def CState.isFailed : CState → Bool
  | .failed _ => true
  | .idle | .negotiating | .receiving | .done => false

/-- The control is between operations, stands at the top of a turn outside the packet loop, and a response is owed only
at the head position (R27, R54). -/
def State.CtlInv (s : State) : Prop :=
  s.ctl.settled = true ∧ (s.cstate ≠ .receiving → s.ctl = .turn) ∧ (s.ctl ≠ .turn → s.pos = 0)

/-- `pos` is in its range (R27). -/
def State.PosInv (s : State) : Prop := s.pos.toNat ≤ 132

/-- The bound of the error counter (42_validator.md R117), and `over` says what it should (R114). -/
def State.ErrInv (s : State) : Prop :=
  match s.ctl with
  | .counted _ => s.errCount ≤ s.cfg.errCeiling + 1
  | .checked _ isOver => s.errCount ≤ s.cfg.errCeiling + 1 ∧ isOver = s.overCeiling
  | _ => s.errCount ≤ s.cfg.errCeiling ∨ (s.cstate.isFailed = true ∧ s.errCount ≤ s.cfg.errCeiling + 1)

/-- The bound of the handshake counter (43_receive_controller.md R123). -/
def State.RetryInv (s : State) : Prop := s.retryCount ≤ s.cfg.handshakeRetries

/-- The bytes of the current frame are in the buffer, and `crc` is their CRC (40_crc.md R86). -/
def State.FrameInv (s : State) : Prop :=
  ∀ k, s.framed = some k → ∃ p, s.payload.slice 0 k = some p ∧ s.crc = crc16 p

/-- A frame on its way to acceptance is valid, and its sink call is the last event (20_memory.md R55, R116). -/
def State.AcceptInv (s : State) : Prop :=
  (s.ctl = .valid → s.frameValid = true) ∧
  ∀ n, s.ctl = .sunk n → s.frameValid = true ∧ ∃ p, s.block = some p ∧ s.trace.head? = some (.sink p n)

/-- The invariant of the states between two steps. -/
structure State.Inv (s : State) : Prop where
  mem : s.payload.wf
  ctl : s.CtlInv
  pos : s.PosInv
  err : s.ErrInv
  retry : s.RetryInv
  frame : s.FrameInv
  accept : s.AcceptInv

/-- The run is over: `Done` or `Failed(_)` (43_receive_controller.md R134). -/
def State.terminal (s : State) : Bool :=
  match s.cstate with
  | .done | .failed _ => true
  | .idle | .negotiating | .receiving => false

/-- The block waits in a `ChanRead` that nothing answers (70_reset_and_hazards.md R170). -/
def State.stuck (s : State) : Prop := s.cstate = .receiving ∧ s.ctl = .turn ∧ s.rx = [] ∧ s.supply = .blocks

/-- The state after a `ChanWrite(b)` that answered ChanErr (43_receive_controller.md R133, 60_exceptions.md R146): the answer
and ChannelFailure are recorded, and the run is over. -/
def State.writeFails (s : State) (b : Byte) : State :=
  { s with
    writes := s.writes.tail
    cstate := .failed .channelFailure
    ctl := .turn
    trace := .raised (.channelFailure .write none) :: .write b false :: s.trace }

/-- The block hunts for a head byte: the next answer of `ChanRead` is classified (R27). -/
def State.hunting (s : State) : Prop := s.cstate = .receiving ∧ s.ctl = .turn ∧ s.pos = 0

end Sys2Proof.Machine
end

