-- ==== Sys2Proof/Certificates/Slice0/Obligations.lean ====
section
/-! DEFINITION. The statements for the provers. Each docstring names the rules of spec/ it formalises; a statement that
rests on a choice of the model names the log entry. -/

open Sys2Proof Sys2Proof.Machine

/-! ### The CRC unit (40_crc.md) -/

/-- R81: at RX.SOH, CRC.CLR sets the register to 0x0000 and changes nothing else. -/
def Obligations.CrcClrClearsRegister : Prop :=
  ∀ s : State, s.cstate = .receiving → s.ctl = .answered (.byte 0x01) → s.pos = 0 →
    exec .crcClr s = .next { s with crc := 0x0000 }

/-- R82: CRC.BIT, inside CRC.UPD, yields one shift step of its operand and changes no register. R84: CRC.UPD, inside
RX.DATA, XORs the byte into bits 15:8 and makes exactly eight shift steps. -/
def Obligations.CrcBitAndCrcUpd : Prop :=
  (∀ (c : Word) (b : Byte) (s : State), s.cstate = .receiving → s.ctl = .answered (.byte b) → 3 ≤ s.pos → s.pos ≤ 130 →
    exec (.crcBit c) s =
      .next { s with out := some (.word (if c.getLsbD 15 = true then (c <<< 1) ^^^ 0x1021 else c <<< 1)) }) ∧
  (∀ (b : Byte) (s : State), s.cstate = .receiving → s.ctl = .answered (.byte b) → 3 ≤ s.pos → s.pos ≤ 130 →
    exec (.crcUpd b) s = .next { s with crc := bitstep^[8] (s.crc ^^^ (b.zeroExtend 16 <<< 8)) })


/-- R83: CRC.BUF, inside VAL.CRC, yields the fold of the buffer from 0x0000 in rising order, and writes no register; the
empty buffer gives 0, and a leading zero byte changes nothing. -/
def Obligations.CrcBufFoldsFromZero : Prop :=
  (∀ (buf : List Byte) (s : State), s.cstate = .receiving → s.ctl = .evFrame →
    exec (.crcBuf buf) s = .next { s with out := some (.word (buf.foldl crcByte 0x0000)) }) ∧
  crc16 [] = 0x0000 ∧ ∀ buf : List Byte, crc16 (0x00 :: buf) = crc16 buf

/-- The model's choice of triggers, log entry 14: CRC.CLR is also due as CRC.BUF's first step inside VAL.CRC, and CRC.BUF,
a pure function, is due in every state. -/
def Obligations.CrcClrAndBufOtherTriggers : Prop :=
  (∀ s : State, s.cstate = .receiving → s.ctl = .evFrame → exec .crcClr s = .next { s with crc := 0x0000 }) ∧
  ∀ (buf : List Byte) (s : State), exec (.crcBuf buf) s = .next { s with out := some (.word (crc16 buf)) }

/-- R87: the byte-table identity. -/
def Obligations.CrcByteTableIdentity : Prop :=
  ∀ (c : Word) (b : Byte), crcByte c b = (c <<< 8) ^^^ crcByte 0x0000 ((c >>> 8).truncate 8 ^^^ b)

/-- R88: a buffer followed by its own CRC bytes, high byte first, has CRC 0, and no other pair of bytes does; different
pairs give different registers. -/
def Obligations.CrcZeroResidue : Prop :=
  ∀ (p : List Byte) (hi lo : Byte),
    (crc16 (p ++ [hi, lo]) = 0x0000 ↔ word hi lo = crc16 p) ∧
    ∀ hi' lo' : Byte, crc16 (p ++ [hi, lo]) = crc16 (p ++ [hi', lo']) → hi = hi' ∧ lo = lo'

/-- R89: the CRC is linear over XOR for buffers of one length; and the document's testable property: with a correct CRC,
flipping any single bit in the payload or in the CRC makes the CRC test fail. -/
def Obligations.SingleBitErrorsAreCaught : Prop :=
  (∀ p e : List Byte, p.length = e.length →
    crc16 (List.zipWith (· ^^^ ·) p e) = crc16 p ^^^ crc16 e) ∧
  (∀ (p : List Byte) (hi lo : Byte), word hi lo = crc16 p →
    (∀ (k : Nat) (hk : k < p.length) (j : Nat), j < 8 → crc16 (p.set k (p[k] ^^^ (1 <<< j))) ≠ word hi lo) ∧
    (∀ j : Nat, j < 8 → crc16 p ≠ word (hi ^^^ (1 <<< j)) lo ∧ crc16 p ≠ word hi (lo ^^^ (1 <<< j))))


/-! ### Decoding (30_encoding.md) -/

/-- Words written out from R61, R62, R68 and R69: what each selects. -/
def Obligations.HandWrittenWordsDecode : Prop :=
  decode 0 (.byte 0b00000001) = .rxSoh ∧ decode 0 (.byte 0b00000100) = .rxEot ∧
  decode 0 (.byte 0b00011000) = .rxNoise 0x18 ∧ decode 1 (.byte 0b00000100) = .rxId 0x04 ∧
  decode 2 (.byte 0b11111110) = .rxIdc 0xFE ∧ decode 57 (.byte 0b00000100) = .rxData 0x04 ∧
  decode 131 (.byte 0b00000001) = .rxCrch 0x01 ∧ decode 132 (.byte 0b00011000) = .rxCrcl 0x18 ∧
  decode 13 .chanErr = .rxErr ∧ decodeTableWord 8 0x01 = some .rxSoh ∧ decodeTableWord 8 0x04 = some .rxEot ∧
  decodeTableWord 1064 (0x0101FE * 2 ^ 1040) = some .rxSoh

/-- R68: at the head position the 256 byte values fall in three classes by exact match on all 8 bits. R69: at every other
position of a frame, `pos` alone selects the operation. -/
def Obligations.HeadByteAndPositionSelect : Prop :=
  (∀ b : Byte, (b = 0x01 → decode 0 (.byte b) = .rxSoh) ∧ (b = 0x04 → decode 0 (.byte b) = .rxEot) ∧
    (b ≠ 0x01 → b ≠ 0x04 → decode 0 (.byte b) = .rxNoise b)) ∧
  (∀ (pos b : Byte), (pos = 1 → decode pos (.byte b) = .rxId b) ∧ (pos = 2 → decode pos (.byte b) = .rxIdc b) ∧
    (3 ≤ pos → pos ≤ 130 → decode pos (.byte b) = .rxData b) ∧ (pos = 131 → decode pos (.byte b) = .rxCrch b) ∧
    (pos = 132 → decode pos (.byte b) = .rxCrcl b))


/-- R70, R73: a channel error selects RX.ERR at any position, every byte is legal at every position, and what the decoder
gives is a well-formed operation. -/
def Obligations.DecodeIsTotalAndWellFormed : Prop :=
  (∀ pos : Byte, decode pos .chanErr = .rxErr) ∧
  ∀ (pos : Byte) (r : Answer), (decode pos r).wf = true ∧
    (pos.toNat ≤ 132 → ∀ b, r = .byte b → encodesAt pos (decode pos r) = true ∧ encode (decode pos r) = [b])

/-- Decode and encode agree on operations: at every position that admits it, the byte of a well-formed operation of the
receive stream decodes to that operation. -/
def Obligations.OperationDecodesFromItsByte : Prop :=
  ∀ (i : Instr) (pos : Byte), i.wf = true → encodesAt pos i = true →
    ∃ b, encode i = [b] ∧ decode pos (.byte b) = i

/-- Decode and encode agree on units (R61, R62, R74): the bytes of every well-formed unit, with anything after them,
decode to that unit and leave exactly what came after; and so do the bytes of the unit's word, the bits numbered as R61
numbers them, with the first byte most significant. -/
def Obligations.UnitDecodesFromItsBytes : Prop :=
  (∀ (u : WireUnit) (rest : List Byte), u.wf = true → decodeUnit (encodeUnit u ++ rest) = .ok (u, rest)) ∧
  ∀ u : WireUnit, u.wf = true →
    decodeUnit (tableBytes (8 * (encodeUnit u).length) (bytesWord (encodeUnit u))) = .ok (u, [])

/-- The other direction: what decodes is well formed, and re-encoding it gives back the bytes taken. -/
def Obligations.DecodedUnitReencodes : Prop :=
  ∀ (bytes rest : List Byte) (u : WireUnit), decodeUnit bytes = .ok (u, rest) →
    u.wf = true ∧ encodeUnit u ++ rest = bytes

/-! ### The framer (41_framer.md) -/

/-- R91, R92, R93: RX.SOH starts a frame and clears `crc`; RX.EOT; RX.NOISE, for all 254 values alike, with the event
NoiseByte recorded with the byte (R140). -/
def Obligations.RxAtTheHeadPosition : Prop :=
  (∀ s : State, s.cstate = .receiving → s.ctl = .answered (.byte 0x01) → s.pos = 0 →
    exec .rxSoh s = .next { s with head := 0x01, crc := 0x0000, pos := 1, ctl := .turn }) ∧
  (∀ s : State, s.cstate = .receiving → s.ctl = .answered (.byte 0x04) → s.pos = 0 →
    exec .rxEot s = .next { s with head := 0x04, pos := 0, ctl := .evEot }) ∧
  (∀ (b : Byte) (s : State), b ≠ 0x01 → b ≠ 0x04 → s.cstate = .receiving → s.ctl = .answered (.byte b) → s.pos = 0 →
    exec (.rxNoise b) s =
      .next { s with head := b, pos := 0, ctl := .evNoise, trace := .raised (.noiseByte b) :: s.trace })


/-- R94, R95, R97, R98: the header and CRC bytes are stored, nothing is compared, and the frame is complete after the low
CRC byte. -/
def Obligations.RxHeaderAndCrcBytesAreStored : Prop :=
  ∀ (b : Byte) (s : State), s.cstate = .receiving → s.ctl = .answered (.byte b) →
    (s.pos = 1 → exec (.rxId b) s = .next { s with id := b, pos := 2, ctl := .turn }) ∧
    (s.pos = 2 → exec (.rxIdc b) s = .next { s with idc := b, pos := 3, ctl := .turn }) ∧
    (s.pos = 131 → exec (.rxCrch b) s = .next { s with crcHi := b, pos := 132, ctl := .turn }) ∧
    (s.pos = 132 → exec (.rxCrcl b) s = .next { s with crcLo := b, pos := 0, ctl := .evFrame })

/-- R96: RX.DATA stores the byte at `payload[pos - 3]`, folds it into `crc`, and goes on; every other byte of the buffer
and every other register stays. -/
def Obligations.RxDataStoresAndFolds : Prop :=
  ∀ (b : Byte) (s : State), s.cstate = .receiving → s.ctl = .answered (.byte b) → 3 ≤ s.pos → s.pos ≤ 130 →
    ∃ m : Memory,
      exec (.rxData b) s =
        .next { s with payload := m, crc := crcByte s.crc b, pos := s.pos + 1, ctl := .turn } ∧
      m.read (s.pos.toNat - 3) = some b ∧ ∀ a : Nat, a ≠ s.pos.toNat - 3 → m.read a = s.payload.read a

/-- R99: RX.ERR raises ChannelFailure with the position, at any position; nothing is sent and no register is changed. -/
def Obligations.RxErrRaisesChannelFailure : Prop :=
  ∀ s : State, s.cstate = .receiving → s.ctl = .answered .chanErr →
    exec .rxErr s = .next { s with cstate := .failed .channelFailure, ctl := .turn,
                                   trace := .raised (.channelFailure .read (some s.pos)) :: s.trace }

/-- R100: the transition table of `pos`, with the operation's event as the point the controller is left at, over one step
that takes an answer of the channel; and no other step of a run moves `pos`. -/
def Obligations.PosFollowsTransitionTable : Prop :=
  (∀ (s : State) (r : Answer) (rest : List Answer) (sup : Supply), s.cstate = .receiving → s.ctl = .turn →
    s.nextAnswer = some (r, rest, sup) → s.pos.toNat ≤ 132 →
    ∃ t, step s = .next t ∧ t.rx = rest ∧ t.supply = sup ∧
      (t.pos, t.ctl, t.cstate) = (match r with
        | .chanErr => (s.pos, .turn, .failed .channelFailure)
        | .byte b =>
          if s.pos = 0 then
            (if b = 0x01 then (1, .turn, .receiving) else if b = 0x04 then (0, .evEot, .receiving)
              else (0, .evNoise, .receiving))
          else if s.pos = 132 then (0, .evFrame, .receiving)
          else (s.pos + 1, .turn, .receiving))) ∧
  ∀ s t : State, s.CtlInv → s.running → step s = .next t → t.reads = s.reads → t.pos = s.pos

/-- The frame of the framer (R20, R26): what no RX operation changes when it answers a next state, and which operation
alone may change each frame register; every byte of the buffer but the one RX.DATA stores stays. -/
def Obligations.FramerFrame : Prop :=
  ∀ (i : Instr) (s t : State), (i = .rxErr ∨ ∃ pos, encodesAt pos i = true) → exec i s = .next t →
    t.expectedId = s.expectedId ∧ t.errCount = s.errCount ∧ t.retryCount = s.retryCount ∧ t.cfg = s.cfg ∧
    t.out = s.out ∧ t.rx = s.rx ∧ t.supply = s.supply ∧ t.avail = s.avail ∧ t.writes = s.writes ∧ t.sinks = s.sinks ∧
    t.calls = s.calls ∧ t.draws = s.draws ∧ (i ≠ .rxErr → t.cstate = s.cstate) ∧
    (t.head ≠ s.head → s.pos = 0) ∧ (t.id ≠ s.id → ∃ b, i = .rxId b) ∧ (t.idc ≠ s.idc → ∃ b, i = .rxIdc b) ∧
    (t.crcHi ≠ s.crcHi → ∃ b, i = .rxCrch b) ∧ (t.crcLo ≠ s.crcLo → ∃ b, i = .rxCrcl b) ∧
    (t.crc ≠ s.crc → i = .rxSoh ∨ ∃ b, i = .rxData b) ∧
    (∀ a : Nat, (∀ b, i = .rxData b → a ≠ payloadIndex s.pos) → t.payload.read a = s.payload.read a) ∧
    (i = .rxErr → t.pos = s.pos)

/-- A whole frame (R41, R101): from the head position, 133 steps take exactly the 133 bytes of any frame, whatever its
id, complement and CRC, and leave its fields in the registers, its payload in the buffer and the payload's CRC in `crc`,
with no write, poll, delay or sink call among them. -/
def Obligations.FrameIsAssembledIn133Steps : Prop :=
  ∀ (s : State) (id idc crcHi crcLo : Byte) (p : List Byte) (rest : List Answer), s.hunting → p.length = 128 →
    s.rx = (encodeUnit (.frame id idc p crcHi crcLo)).map .byte ++ rest →
    ∃ t, core.run 133 s = .next t ∧ t.cstate = .receiving ∧ t.ctl = .evFrame ∧ t.pos = 0 ∧ t.rx = rest ∧
      t.supply = s.supply ∧
      t.head = 0x01 ∧ t.id = id ∧ t.idc = idc ∧ t.block = some p ∧ t.crc = crc16 p ∧ t.crcHi = crcHi ∧ t.crcLo = crcLo ∧
      t.expectedId = s.expectedId ∧ t.errCount = s.errCount ∧ t.retryCount = s.retryCount ∧ t.cfg = s.cfg ∧
      t.avail = s.avail ∧ t.writes = s.writes ∧ t.sinks = s.sinks ∧ t.calls = s.calls ∧
      t.trace = ((encodeUnit (.frame id idc p crcHi crcLo)).map fun b => Event.read (.byte b)).reverse ++ s.trace

/-! ### The validator, the sequence register and the error counter (42_validator.md) -/

/-- R105, R106: VAL.SEQ and VAL.CMP yield their tests on a completed frame and write no register. -/
def Obligations.ValSeqAndValCmpYieldTheirTests : Prop :=
  ∀ s : State, s.cstate = .receiving → s.ctl = .evFrame →
    exec .valSeq s = .next { s with out := some (.seqOk (decide (s.id = s.expectedId))) } ∧
    exec .valCmp s = .next { s with out := some (.cmpOk (decide ((s.id.toNat + s.idc.toNat) % 256 = 255))) }

/-- R107: VAL.CRC yields the equality of the transmitted CRC with the register; on a completed frame of the invariant the
buffer form gives the same. -/
def Obligations.ValCrcComparesTransmittedCrc : Prop :=
  (∀ s : State, s.cstate = .receiving → s.ctl = .evFrame →
    exec .valCrc s = .next { s with out := some (.crcOk (decide
      (s.crc = (s.crcHi.zeroExtend 16 <<< 8) ||| s.crcLo.zeroExtend 16))) }) ∧
  ∀ s : State, s.Inv → s.cstate = .receiving → s.ctl = .evFrame →
    ∃ p, s.block = some p ∧ exec .valCrc s = .next { s with out := some (.crcOk (decide
      (crc16 p = (s.crcHi.zeroExtend 16 <<< 8) ||| s.crcLo.zeroExtend 16))) }

/-- R66: the forms of the complement relation, on the bytes of any frame, are the test VAL.CMP makes. -/
def Obligations.ComplementFormsAgree : Prop :=
  ∀ s : State, (s.cmpOk = true ↔ s.idc = 255 - s.id) ∧ (s.cmpOk = true ↔ s.idc = ~~~s.id) ∧
    (s.cmpOk = true ↔ s.id ^^^ s.idc = 0xFF) ∧ (s.cmpOk = true ↔ (s.id.toNat + s.idc.toNat) % 256 = 255) ∧
    (s.cmpOk = true ↔ s.id.toNat + s.idc.toNat = 255)

/-- R109: VAL.FRAME on a completed frame with its payload in the buffer: Valid returns the payload unchanged exactly if
all three tests pass, otherwise InvalidFrame is raised with the cause bits of R108; no register is written. At no other
time does it run. -/
def Obligations.ValFrameJudgesTheFrame : Prop :=
  (∀ s : State, ¬ (s.cstate = .receiving ∧ s.ctl = .evFrame) →
    exec .valFrame s = .refused (.outsideTrigger "VAL.FRAME")) ∧
  ∀ (s : State) (p : List Byte), s.cstate = .receiving → s.ctl = .evFrame → s.block = some p →
    exec .valFrame s = .next (
      if s.id = s.expectedId ∧ (s.id.toNat + s.idc.toNat) % 256 = 255 ∧ s.crc = word s.crcHi s.crcLo then
        { s with ctl := .valid, out := some (.valid p) }
      else
        { s with
          ctl := .invalid
          out := some (.invalid ⟨decide (s.id ≠ s.expectedId), decide ((s.id.toNat + s.idc.toNat) % 256 ≠ 255),
            decide (s.crc ≠ word s.crcHi s.crcLo)⟩)
          trace := .raised (.invalidFrame ⟨decide (s.id ≠ s.expectedId),
            decide ((s.id.toNat + s.idc.toNat) % 256 ≠ 255), decide (s.crc ≠ word s.crcHi s.crcLo)⟩) :: s.trace })

/-- R110, R111: SEQ.INIT and SEQ.ADV; 0xFF advances to 0x00 and 0x00 to 0x01. Outside its trigger each is refused (R71).
The triggers are the model's reading of "invoked by RECV" (R120) and "invoked by RSP.ACK_FRAME" (R130), log entry 14:
SEQ.INIT in every `Idle` state, with a RECV waiting or not, and SEQ.ADV once the sink has taken 128 bytes. -/
def Obligations.SequenceRegisterOperations : Prop :=
  (∀ s : State, s.cstate = .idle → exec .seqInit s = .next { s with expectedId := 0x01 }) ∧
  (∀ s : State, s.cstate ≠ .idle → exec .seqInit s = .refused (.outsideTrigger "SEQ.INIT")) ∧
  (∀ s : State, s.cstate = .receiving → s.ctl = .sunk 128 →
    exec .seqAdv s = .next { s with expectedId := BitVec.ofNat 8 ((s.expectedId.toNat + 1) % 256) }) ∧
  (∀ s : State, ¬ (s.cstate = .receiving ∧ s.ctl = .sunk 128) →
    exec .seqAdv s = .refused (.outsideTrigger "SEQ.ADV"))

/-- R112: ERR.INC on a noise byte counts it, and ERR.CHK follows at once; with the switch off it runs at no other time.
R113: ERR.CLR, in RSP.ACK_FRAME and in RECV. R114: ERR.CHK, just after an increment, yields whether the count is strictly
over the ceiling; without one it is refused. Outside its trigger each is refused (R71). That ERR.CLR is due where RSP.ACK_FRAME
is and in every `Idle` state, with a RECV waiting or not, is the model's reading of the operations that invoke it, log
entry 14; that ERR.CHK also follows the count of a refused frame is log entry 9. -/
def Obligations.ErrorCounterOperations : Prop :=
  (∀ s : State, s.cstate = .receiving → s.ctl = .evNoise →
    exec .errInc s = .next { s with errCount := s.errCount + 1, ctl := .counted .noise } ∧
    ({ s with errCount := s.errCount + 1, ctl := .counted .noise } : State).due = some .errChk) ∧
  (∀ s : State, s.cfg.countInvalidFrames = false → ¬ (s.cstate = .receiving ∧ s.ctl = .evNoise) →
    exec .errInc s = .refused (.outsideTrigger "ERR.INC")) ∧
  (∀ s : State, (s.cstate = .receiving ∧ s.ctl = .sunk 128) ∨ s.cstate = .idle →
    exec .errClr s = .next { s with errCount := 0 }) ∧
  (∀ s : State, ¬ (s.cstate = .receiving ∧ s.ctl = .sunk 128) → s.cstate ≠ .idle →
    exec .errClr s = .refused (.outsideTrigger "ERR.CLR")) ∧
  (∀ (s : State) (what : Counted), s.cstate = .receiving → s.ctl = .counted what →
    exec .errChk s = .next { s with ctl := .checked what (decide (s.errCount > s.cfg.errCeiling)),
                                    out := some (.overCeiling (decide (s.errCount > s.cfg.errCeiling))) }) ∧
  (∀ s : State, (∀ what, ¬ (s.cstate = .receiving ∧ s.ctl = .counted what)) →
    exec .errChk s = .refused (.outsideTrigger "ERR.CHK"))

/-- The frame of the validator family: none of its operations moves `pos`, the frame registers, the buffer or the
environment; only SEQ.* writes `expected_id` and only ERR.INC and ERR.CLR write `err_count`. -/
def Obligations.ValidatorFrame : Prop :=
  ∀ (i : Instr) (s t : State),
    i = .valSeq ∨ i = .valCmp ∨ i = .valCrc ∨ i = .valFrame ∨ i = .seqInit ∨ i = .seqAdv ∨ i = .errInc ∨ i = .errClr ∨
      i = .errChk → exec i s = .next t →
    t.crc = s.crc ∧ t.head = s.head ∧ t.id = s.id ∧ t.idc = s.idc ∧ t.crcHi = s.crcHi ∧ t.crcLo = s.crcLo ∧
    t.pos = s.pos ∧ (∀ a : Nat, t.payload.read a = s.payload.read a) ∧ t.retryCount = s.retryCount ∧
    t.cstate = s.cstate ∧ t.cfg = s.cfg ∧ t.rx = s.rx ∧ t.supply = s.supply ∧ t.avail = s.avail ∧
    t.writes = s.writes ∧ t.sinks = s.sinks ∧
    t.calls = s.calls ∧ t.draws = s.draws ∧ (i ≠ .valFrame → t.trace = s.trace) ∧
    (i ≠ .seqInit → i ≠ .seqAdv → t.expectedId = s.expectedId) ∧
    (i ≠ .errInc → i ≠ .errClr → t.errCount = s.errCount)

/-! ### The controller (43_receive_controller.md) -/

/-- R120, R165: RECV is the reset of a run, from any state, and leads to the handshake. -/
def Obligations.RecvResetsTheSession : Prop :=
  ∀ (cfg : Config) (s : State), ∃ t, exec (.recv cfg) s = .next t ∧
    t.expectedId = 0x01 ∧ t.errCount = 0 ∧ t.retryCount = 0 ∧ t.pos = 0 ∧ t.cstate = .negotiating ∧ t.cfg = cfg ∧
    t.ctl = .turn ∧ t.rx = s.rx ∧ t.supply = s.supply ∧ t.avail = s.avail ∧ t.writes = s.writes ∧ t.sinks = s.sinks ∧
    t.calls = s.calls ∧ t.trace = s.trace

/-- R167: a run shares nothing with the one before: RECV's next state is the same for any two states with one
environment, and no payload byte has a value in it. The free values drawn for the unspecified registers (log entry 3) are
part of that environment, and a buffer without values after RECV is log entry 2. -/
def Obligations.RecvTakesNothingFromEarlierRuns : Prop :=
  (∀ (cfg : Config) (s t : State), exec (.recv cfg) s = .next t → ∀ a : Nat, t.payload.read a = none) ∧
  ∀ (cfg : Config) (s s' : State), s.rx = s'.rx → s.supply = s'.supply → s.avail = s'.avail → s.writes = s'.writes →
    s.sinks = s'.sinks →
    s.calls = s'.calls → s.trace = s'.trace → s.draws = s'.draws → exec (.recv cfg) s = exec (.recv cfg) s'

/-- R121: HS.TRY counts the attempt, sends one `'C'`, polls once without taking a byte, and delays exactly if the poll
answers false; a failed write is ChannelFailure, and no poll is made. R122: HS.FAIL gives up after the last attempt and
sends nothing. That the last failed poll is followed by a delay too is the spec's decision D12, log entry 12, and that a
poll has no error answer is D25, log entry 13. -/
def Obligations.HandshakeOperations : Prop :=
  (∀ s : State, s.cstate = .negotiating → s.ctl = .turn → s.retryCount < s.cfg.handshakeRetries →
    exec .hsTry s = .next (
      if s.writes.headD true = true then
        if s.avail.headD true = true then
          { s with retryCount := s.retryCount + 1, cstate := .receiving, writes := s.writes.tail, avail := s.avail.tail,
                   trace := .avail true :: .write 0x43 true :: s.trace }
        else
          { s with retryCount := s.retryCount + 1, writes := s.writes.tail, avail := s.avail.tail,
                   trace := .delay :: .avail false :: .write 0x43 true :: s.trace }
      else ({ s with retryCount := s.retryCount + 1 } : State).writeFails 0x43)) ∧
  (∀ s : State, s.cstate = .negotiating → s.ctl = .turn → s.retryCount = s.cfg.handshakeRetries →
    exec .hsFail s = .next { s with cstate := .failed .handshakeTimeout, trace := .raised .handshakeTimeout :: s.trace })

/-- R126: RSP.ACK_EOT sends one ACK and the run is done; a failed write is ChannelFailure. -/
def Obligations.AckEotFinishes : Prop :=
  ∀ s : State, s.cstate = .receiving → s.ctl = .evEot →
    exec .rspAckEot s = .next (
      if s.writes.headD true = true then
        { s with cstate := .done, ctl := .turn, writes := s.writes.tail, trace := .write 0x06 true :: s.trace }
      else s.writeFails 0x06)

/-- R127: RSP.NAK_NOISE sends one NAK and the loop goes on. R128: RSP.CAN_NOISE sends one CAN and raises TooManyErrors with
the count. In both a failed write is ChannelFailure instead; for the CAN that is the spec's decision D14, log entry 10. -/
def Obligations.NoiseIsAnswered : Prop :=
  (∀ s : State, s.cstate = .receiving → s.ctl = .checked .noise false →
    exec .rspNakNoise s = .next (
      if s.writes.headD true = true then
        { s with ctl := .turn, writes := s.writes.tail, trace := .write 0x15 true :: s.trace }
      else s.writeFails 0x15)) ∧
  (∀ s : State, s.cstate = .receiving → s.ctl = .checked .noise true →
    exec .rspCanNoise s = .next (
      if s.writes.headD true = true then
        { s with cstate := .failed .tooManyErrors, ctl := .turn, writes := s.writes.tail,
                 trace := .raised (.tooManyErrors s.errCount) :: .write 0x18 true :: s.trace }
      else s.writeFails 0x18))

/-- R129: RSP.SINK hands the 128 bytes of the buffer to the sink, once, and returns its count. -/
def Obligations.SinkGetsThePayload : Prop :=
  ∀ (s : State) (p : List Byte), s.cstate = .receiving → s.ctl = .valid → s.block = some p →
    exec .rspSink s = .next { s with ctl := .sunk (s.sinks.headD 128), out := some (.count (s.sinks.headD 128)),
                                     sinks := s.sinks.tail, trace := .sink p (s.sinks.headD 128) :: s.trace }

/-- R130: RSP.ACK_FRAME moves the registers and sends one ACK. R131: any count other than 128 is a failure: one CAN,
SinkWriteFailure with the count, no register moved. In both a failed write is ChannelFailure instead, in the first with the
registers already moved. That a CAN which cannot be written gives ChannelFailure is the spec's decision D14, log entry 10,
and that a count above 128 is a failure is D13, log entry 11. -/
def Obligations.AcceptedOrSinkFailed : Prop :=
  (∀ s : State, s.cstate = .receiving → s.ctl = .sunk 128 →
    exec .rspAckFrame s = .next (
      if s.writes.headD true = true then
        { s with expectedId := BitVec.ofNat 8 ((s.expectedId.toNat + 1) % 256), errCount := 0, ctl := .turn,
                 writes := s.writes.tail, trace := .write 0x06 true :: s.trace }
      else
        ({ s with expectedId := BitVec.ofNat 8 ((s.expectedId.toNat + 1) % 256), errCount := 0 } : State).writeFails
          0x06)) ∧
  (∀ (s : State) (n : Nat), n ≠ 128 → s.cstate = .receiving → s.ctl = .sunk n →
    exec (.rspCanSink n) s = .next (
      if s.writes.headD true = true then
        { s with cstate := .failed .sinkWriteFailure, ctl := .turn, writes := s.writes.tail,
                 trace := .raised (.sinkWriteFailure n) :: .write 0x18 true :: s.trace }
      else s.writeFails 0x18))

/-- R132: RSP.NAK_FRAME sends one NAK; `expected_id` and `err_count` are unchanged and the sink is not called; a failed
write is ChannelFailure. The premise on `COUNT_INVALID_FRAMES` is the spec's default, the only value it specifies
(R112). -/
def Obligations.NakFrameGoesOn : Prop :=
  ∀ s : State, s.cstate = .receiving → s.ctl = .invalid → s.cfg.countInvalidFrames = false →
    exec .rspNakFrame s = .next (
      if s.writes.headD true = true then
        { s with ctl := .turn, writes := s.writes.tail, trace := .write 0x15 true :: s.trace }
      else s.writeFails 0x15)

/-- R133: FAIL.CHAN ends the run, in the handshake and in the packet loop, after a read and after a write. -/
def Obligations.FailChanEndsTheRun : Prop :=
  ∀ s : State, s.cstate = .negotiating ∨ s.cstate = .receiving →
    (s.ctl = .answered .chanErr → exec (.failChan .read) s = .next { s with
      cstate := .failed .channelFailure, ctl := .turn, trace := .raised (.channelFailure .read none) :: s.trace }) ∧
    (s.ctl = .writeFailed → exec (.failChan .write) s = .next { s with
      cstate := .failed .channelFailure, ctl := .turn, trace := .raised (.channelFailure .write none) :: s.trace })

/-- R112's switch, log entry 9: with `COUNT_INVALID_FRAMES` a refused frame is counted and checked before its NAK, and one
over the ceiling is answered as noise over the ceiling is. The clauses give each operation, and the three steps from
InvalidFrame to the answer; a failed write is ChannelFailure instead (for the CAN, log entry 10). -/
def Obligations.CountInvalidFramesSwitch : Prop :=
  ∀ s : State, s.cstate = .receiving →
    (s.ctl = .invalid → s.cfg.countInvalidFrames = true →
      exec .errInc s = .next { s with errCount := s.errCount + 1, ctl := .counted .badFrame }) ∧
    (s.ctl = .checked .badFrame false →
      exec .rspNakFrame s = .next (
        if s.writes.headD true = true then
          { s with ctl := .turn, writes := s.writes.tail, trace := .write 0x15 true :: s.trace }
        else s.writeFails 0x15)) ∧
    (s.ctl = .checked .badFrame true →
      exec .rspCanNoise s = .next (
        if s.writes.headD true = true then
          { s with cstate := .failed .tooManyErrors, ctl := .turn, writes := s.writes.tail,
                   trace := .raised (.tooManyErrors s.errCount) :: .write 0x18 true :: s.trace }
        else s.writeFails 0x18)) ∧
    (s.ctl = .invalid → s.cfg.countInvalidFrames = true →
      core.run 3 s = .next (
        if s.errCount + 1 > s.cfg.errCeiling then
          if s.writes.headD true = true then
            { s with errCount := s.errCount + 1, out := some (.overCeiling true), cstate := .failed .tooManyErrors,
                     ctl := .turn, writes := s.writes.tail,
                     trace := .raised (.tooManyErrors (s.errCount + 1)) :: .write 0x18 true :: s.trace }
          else ({ s with errCount := s.errCount + 1, out := some (.overCeiling true) } : State).writeFails 0x18
        else
          if s.writes.headD true = true then
            { s with errCount := s.errCount + 1, out := some (.overCeiling false), ctl := .turn, writes := s.writes.tail,
                     trace := .write 0x15 true :: s.trace }
          else ({ s with errCount := s.errCount + 1, out := some (.overCeiling false) } : State).writeFails 0x15))

/-- R133, R146: wherever a sending operation is due and the channel fails its write, the run ends with ChannelFailure (where
the byte is a CAN, that is the spec's decision D14, log entry 10; with refused frames counted, log entry 9):
exactly the failed write and the failure are recorded, nothing is transmitted, and `pos`, the buffer and the frame
registers stay. -/
def Obligations.FailedWriteEndsTheRun : Prop :=
  ∀ (s : State) (i : Instr) (b : Byte), s.Inv → s.fetch = some (i, s) → sends i = some b →
    s.writes.head? = some false →
    ∃ t, step s = .next t ∧ t.cstate = .failed .channelFailure ∧ t.ctl = .turn ∧
      t.trace = .raised (.channelFailure .write none) :: .write b false :: s.trace ∧ t.tx = s.tx ∧
      t.pos = s.pos ∧ t.payload = s.payload ∧ t.crc = s.crc ∧ t.id = s.id ∧ t.idc = s.idc ∧ t.rx = s.rx ∧
      t.supply = s.supply ∧ t.avail = s.avail ∧ t.sinks = s.sinks

/-- The frame of the controller family (R26): no operation of it but RECV writes `crc`, the frame registers, `pos` or a
byte of the buffer; only HS.TRY writes `retry_count`, only RSP.ACK_FRAME moves `expected_id` and `err_count`. -/
def Obligations.ControllerFrame : Prop :=
  ∀ (i : Instr) (s t : State),
    i = .hsTry ∨ i = .hsFail ∨ i = .rspAckEot ∨ i = .rspNakNoise ∨ i = .rspCanNoise ∨ i = .rspSink ∨ i = .rspAckFrame ∨
      (∃ n, i = .rspCanSink n) ∨ i = .rspNakFrame ∨ (∃ d, i = .failChan d) → exec i s = .next t →
    t.crc = s.crc ∧ t.head = s.head ∧ t.id = s.id ∧ t.idc = s.idc ∧ t.crcHi = s.crcHi ∧ t.crcLo = s.crcLo ∧
    t.pos = s.pos ∧ (∀ a : Nat, t.payload.read a = s.payload.read a) ∧ t.cfg = s.cfg ∧ t.rx = s.rx ∧ t.supply = s.supply ∧
    t.calls = s.calls ∧ t.draws = s.draws ∧ (i ≠ .hsTry → t.retryCount = s.retryCount) ∧
    (i ≠ .hsTry → t.avail = s.avail) ∧ (i ≠ .rspSink → t.sinks = s.sinks) ∧
    (i ≠ .rspAckFrame → t.expectedId = s.expectedId ∧ t.errCount = s.errCount)

/-! ### The machine as a whole -/

/-- R125, R90: at the top of a turn, a step takes one answer and is the operation the decoder reads from it, run in the
state in which that answer is in hand. The next answer is the first of the list, and after the list what the supply gives
(R75, R137; the model's form of the environment, log entry 6). -/
def Obligations.StepRunsTheDecodedOperation : Prop :=
  (∀ (s : State) (r : Answer) (rest : List Answer) (sup : Supply), s.cstate = .receiving → s.ctl = .turn →
    s.nextAnswer = some (r, rest, sup) →
    step s = exec (decode s.pos r)
      { s with rx := rest, supply := sup, ctl := .answered r, trace := .read r :: s.trace } ∧
    (decode s.pos r).wf = true) ∧
  ∀ s : State,
    (∀ r rest, s.rx = r :: rest → s.nextAnswer = some (r, rest, s.supply)) ∧
    (s.rx = [] →
      (s.supply = .blocks → s.nextAnswer = none) ∧
      (∀ first rest, s.supply = .repeats first rest → s.nextAnswer = some (first, rest, .repeats first rest)) ∧
      (∀ n, s.supply = .free n → s.nextAnswer = some (Answer.free n, [], .free (n + 1))))

/-- At every point other than the top of a turn a step is the operation that is due there. In the packet loop: R125's
dispatch, with the switch of R112 off; then, the model's own, the rows a counted refused frame takes (log entry 9); then an
answer already in hand and a failed write (R90, R133), at which no step of a run begins (log entry 17). In the handshake:
R120's loop, and a failed write. Outside a run: RECV, begun from a call that waits (log entry 7). -/
def Obligations.StepRunsTheDueOperation : Prop :=
  (∀ s : State, s.cstate = .receiving →
    (s.ctl = .evEot → step s = exec .rspAckEot s) ∧ (s.ctl = .evNoise → step s = exec .errInc s) ∧
    (s.ctl = .counted .noise → step s = exec .errChk s) ∧ (s.ctl = .checked .noise true → step s = exec .rspCanNoise s) ∧
    (s.ctl = .checked .noise false → step s = exec .rspNakNoise s) ∧ (s.ctl = .evFrame → step s = exec .valFrame s) ∧
    (s.ctl = .valid → step s = exec .rspSink s) ∧ (s.ctl = .sunk 128 → step s = exec .rspAckFrame s) ∧
    (∀ n, n ≠ 128 → s.ctl = .sunk n → step s = exec (.rspCanSink n) s) ∧
    (s.ctl = .invalid → s.cfg.countInvalidFrames = false → step s = exec .rspNakFrame s)) ∧
  (∀ s : State, s.cstate = .receiving →
    (s.ctl = .invalid → s.cfg.countInvalidFrames = true → step s = exec .errInc s) ∧
    (s.ctl = .counted .badFrame → step s = exec .errChk s) ∧
    (s.ctl = .checked .badFrame true → step s = exec .rspCanNoise s) ∧
    (s.ctl = .checked .badFrame false → step s = exec .rspNakFrame s)) ∧
  (∀ s : State, s.cstate = .receiving →
    (∀ r, s.ctl = .answered r → step s = exec (decode s.pos r) s) ∧
    (s.ctl = .writeFailed → step s = exec (.failChan .write) s)) ∧
  (∀ s : State, s.cstate = .negotiating →
    (s.ctl ≠ .writeFailed →
      step s = if s.retryCount = s.cfg.handshakeRetries then exec .hsFail s else exec .hsTry s) ∧
    (s.ctl = .writeFailed → step s = exec (.failChan .write) s)) ∧
  (∀ (s : State) (cfg : Config) (rest : List Config), s.cstate = .idle ∨ s.terminal = true → s.calls = cfg :: rest →
    step s = exec (.recv cfg) { s with calls := rest })

/-- R170, R137 (the blocked read) and R134, R166 (outside a run): the block makes no move, for ever. That a move not made is
a step to the same state is the model's choice, log entry 8. -/
def Obligations.BlockMakesNoMove : Prop :=
  ∀ s : State, s.stuck ∨ ((s.cstate = .idle ∨ s.terminal = true) ∧ s.calls = []) →
    step s = .next s ∧ ∀ k : Nat, core.run k s = .next s

/-- R134: in a terminal state no operation of a run has a meaning: each is refused as outside its trigger. CRC.BUF, the
pure function, and RECV are the exceptions (log entry 14). -/
def Obligations.TerminalStatesAbsorb : Prop :=
  ∀ (s : State) (i : Instr), s.terminal = true → (∀ cfg, i ≠ .recv cfg) → (∀ buf, i ≠ .crcBuf buf) →
    ∃ mnemonic, exec i s = .refused (.outsideTrigger mnemonic)

/-- R71, D23's three examples: SEQ.ADV with no accepted frame, VAL.FRAME without a completed frame, and CRC.UPD wherever
RX.DATA has not that byte in hand at a payload position of the packet loop are refused. The trigger of CRC.UPD is the
model's reading of "invoked by RX.DATA", log entry 14. -/
def Obligations.OutsideTriggerIsRefused : Prop :=
  ∀ s : State,
    (¬ (s.cstate = .receiving ∧ s.ctl = .sunk 128) → exec .seqAdv s = .refused (.outsideTrigger "SEQ.ADV")) ∧
    (¬ (s.cstate = .receiving ∧ s.ctl = .evFrame) → exec .valFrame s = .refused (.outsideTrigger "VAL.FRAME")) ∧
    (∀ b : Byte, ¬ (s.cstate = .receiving ∧ s.ctl = .answered (.byte b) ∧ 3 ≤ s.pos ∧ s.pos ≤ 130) →
      exec (.crcUpd b) s = .refused (.outsideTrigger "CRC.UPD"))

/-- R135: the transition table of `cstate` over one step, with the condition of each row that leaves the packet loop or
the handshake. The disjunct for a counted refused frame over the ceiling is no row of R135 but the model's reading of the
switch, log entry 9; the waiting call of the RECV row is log entry 7, the count above 128 of the sink's row log entry 11, and
ChannelFailure on a failed CAN log entry 10. -/
def Obligations.CStateFollowsTransitionTable : Prop :=
  ∀ s t : State, s.CtlInv → step s = .next t → t.cstate ≠ s.cstate →
    ((s.cstate = .idle ∨ s.terminal = true) ∧ s.calls ≠ [] ∧ t.cstate = .negotiating) ∨
    (s.cstate = .negotiating ∧ s.retryCount < s.cfg.handshakeRetries ∧ s.avail.headD true = true ∧
      t.cstate = .receiving) ∨
    (s.cstate = .negotiating ∧ s.retryCount = s.cfg.handshakeRetries ∧ t.cstate = .failed .handshakeTimeout) ∨
    (s.cstate = .receiving ∧ s.ctl = .evEot ∧ t.cstate = .done) ∨
    (s.cstate = .receiving ∧ s.ctl = .checked .noise true ∧ t.cstate = .failed .tooManyErrors) ∨
    (s.cstate = .receiving ∧ s.ctl = .checked .badFrame true ∧ t.cstate = .failed .tooManyErrors) ∨
    (s.cstate = .receiving ∧ (∃ n, n ≠ 128 ∧ s.ctl = .sunk n) ∧ t.cstate = .failed .sinkWriteFailure) ∨
    ((s.cstate = .negotiating ∨ s.cstate = .receiving) ∧
      ((s.ctl = .turn ∧ ∃ rest sup, s.nextAnswer = some (.chanErr, rest, sup)) ∨ s.writes.head? = some false) ∧
      t.cstate = .failed .channelFailure)

/-- R72, R138, R52: an operation that answers a next state passes to `ChanWrite` exactly the byte R72 gives it, once, and
nothing if it has none; it makes no read; and a sink call is RSP.SINK's, of the bytes in the buffer. -/
def Obligations.OperationsSendOnlyTheirByte : Prop :=
  (∀ (i : Instr) (s t : State), exec i s = .next t →
    ∃ new, t.trace = new ++ s.trace ∧ new.filterMap Event.passed = (sends i).toList ∧ (∀ r, Event.read r ∉ new) ∧
      (∀ p n, Event.sink p n ∈ new → i = .rspSink ∧ s.block = some p)) ∧
  sends .hsTry = some 0x43 ∧ sends .rspAckFrame = some 0x06 ∧ sends .rspAckEot = some 0x06 ∧
  sends .rspNakNoise = some 0x15 ∧ sends .rspNakFrame = some 0x15 ∧ sends .rspCanNoise = some 0x18 ∧
  (∀ n, sends (.rspCanSink n) = some 0x18) ∧
  ∀ i b, sends i = some b → i = .hsTry ∨ i = .rspAckFrame ∨ i = .rspAckEot ∨ i = .rspNakNoise ∨ i = .rspNakFrame ∨
    i = .rspCanNoise ∨ ∃ n, i = .rspCanSink n

/-- R54, R169, R124: an answer of `ChanRead` is taken only at the top of a turn of the packet loop, one a step; never in
the handshake, and never while a response is owed. -/
def Obligations.OnlyTheTopOfATurnReads : Prop :=
  ∀ s t : State, step s = .next t →
    (t.rx = s.rx ∧ t.supply = s.supply ∧ t.reads = s.reads) ∨
    (s.cstate = .receiving ∧ s.ctl = .turn ∧ t.reads = s.reads + 1 ∧ ∃ r, s.nextAnswer = some (r, t.rx, t.supply))

/-- R118, R29: `expected_id` changes only by an acceptance, by one modulo 256, or by a new RECV, to 1. -/
def Obligations.ExpectedIdMovesOnlyOnAcceptance : Prop :=
  ∀ s t : State, step s = .next t → t.expectedId ≠ s.expectedId →
    (s.cstate = .receiving ∧ s.ctl = .sunk 128 ∧ t.expectedId = s.expectedId + 1) ∨
    ((s.cstate = .idle ∨ s.terminal = true) ∧ s.calls ≠ [] ∧ t.expectedId = 0x01)

/-- R116, R55: once the sink has answered for a frame, the frame is valid and the sink had its whole payload; then either
the frame is accepted with every register effect and the ACK is written, or none of the three happens and CAN is. That a
count above 128 is among the failures is the spec's decision D13, log entry 11. -/
def Obligations.NoPartialAcceptance : Prop :=
  ∀ (s : State) (n : Nat), s.Inv → s.cstate = .receiving → s.ctl = .sunk n →
    s.frameValid = true ∧ ∃ t p ok before, step s = .next t ∧ s.block = some p ∧ s.trace = .sink p n :: before ∧
      (if n = 128 then
        t.expectedId = s.expectedId + 1 ∧ t.errCount = 0 ∧
          (∃ more, t.trace = more ++ .write 0x06 ok :: .sink p 128 :: before)
      else
        t.expectedId = s.expectedId ∧ t.errCount = s.errCount ∧ t.cstate.isFailed = true ∧
          (∃ more, t.trace = more ++ .write 0x18 ok :: .sink p n :: before ∧ ∀ ok', Event.write 0x06 ok' ∉ more))

/-- Every operation keeps the buffer's canonical form, the range of `pos` and the configuration of the run (R27, R35, R42);
only RECV sets a configuration. -/
def Obligations.ExecKeepsMemoryAndRanges : Prop :=
  ∀ (i : Instr) (s t : State), exec i s = .next t →
    (s.payload.wf → t.payload.wf) ∧ (s.pos.toNat ≤ 132 → t.pos.toNat ≤ 132) ∧ ((∀ cfg, i ≠ .recv cfg) → t.cfg = s.cfg)

/-- R38, R165, R166: what reset leaves, of the values the spec gives. -/
def Obligations.ResetLeavesTheStatedValues : Prop :=
  State.reset.cstate = .idle ∧ State.reset.expectedId = 0x01 ∧ State.reset.errCount = 0 ∧ State.reset.retryCount = 0 ∧
  State.reset.pos = 0 ∧ ∀ a : Nat, State.reset.payload.read a = none

/-- The invariant holds at reset. -/
def Obligations.InvariantHoldsAtReset : Prop := State.reset.Inv

/-- The invariant of the states between two steps is kept by every step: the buffer's form (R42), the range of `pos`
(R27), the bounds of both counters (R117, R123), the streaming CRC (R86), every byte of a completed frame written (R39),
and validity before acceptance (R55). -/
def Obligations.EveryStepKeepsTheInvariant : Prop :=
  ∀ s t : State, s.Inv → step s = .next t → t.Inv

/-- R39, R156: under the invariant every step answers a next state, whatever the environment answers: no unwritten
register is read and no operation is invoked outside its trigger. Where the block makes no move (a blocked `ChanRead`, R170;
`Idle`, `Done` and `Failed` with no call waiting) the spec gives it no step, and the next state asserted here, the same state,
is the model's choice, log entry 8. -/
def Obligations.EveryStepIsDefined : Prop :=
  ∀ s : State, s.Inv → ∃ t, step s = .next t

/-- R148: `raise` of a terminal event ends the run with its cause and changes no register; of a recovered one, only the
events change. -/
def Obligations.RaiseEndsOrRecords : Prop :=
  ∀ (s : State) (e : Raised),
    (∀ c, e.cause = some c → s.raise e = { s with cstate := .failed c, ctl := .turn, trace := .raised e :: s.trace }) ∧
    (e.cause = none → s.raise e = { s with trace := .raised e :: s.trace })

/-- R136, R140: the result of a run and its code. -/
def Obligations.ResultOfARun : Prop :=
  ∀ s : State, (s.result = some .ok ↔ s.cstate = .done) ∧ (∀ c, s.result = some (.failed c) ↔ s.cstate = .failed c) ∧
    (s.result = none ↔ s.terminal = false) ∧ Result.ok.code = 0 ∧ (Result.failed .handshakeTimeout).code = 3 ∧
    (Result.failed .tooManyErrors).code = 4 ∧ (Result.failed .sinkWriteFailure).code = 5 ∧
    (Result.failed .channelFailure).code = 6

/-- A good frame is accepted (R130, R118): offered to a hunting block whose sink takes all and whose channel writes, it is
handed to the sink once, acknowledged once, and the next id is expected. -/
def Obligations.GoodFrameIsAccepted : Prop :=
  ∀ (s : State) (p : List Byte) (rest : List Answer), s.hunting → p.length = 128 →
    s.rx = (goodFrame s.expectedId p).map .byte ++ rest → s.sinks.headD 128 = 128 → s.writes.headD true = true →
    ∃ t, core.run 136 s = .next t ∧ t.hunting ∧ t.rx = rest ∧ t.supply = s.supply ∧ t.expectedId = s.expectedId + 1 ∧
      t.errCount = 0 ∧ t.tx = s.tx ++ [0x06] ∧ t.sinkw = s.sinkw ++ [p]

/-- A frame that fails any of the three tests is refused (R132, R142, R173): one NAK, the sink not asked, `expected_id` and
`err_count` as they were. The premise on `COUNT_INVALID_FRAMES` is the spec's default (R112); what follows InvalidFrame with
the switch on is stated in CountInvalidFramesSwitch (log entry 9). R137, R174: nothing bounds the refusals; where such a
frame is offered over and over for ever and every write is good, the run never ends: it is in the packet loop after every
number of steps, and has answered each frame so far with one NAK. -/
def Obligations.BadFrameIsRefused : Prop :=
  (∀ (s : State) (id idc crcHi crcLo : Byte) (p : List Byte) (rest : List Answer), s.hunting → p.length = 128 →
    s.rx = (encodeUnit (.frame id idc p crcHi crcLo)).map .byte ++ rest → s.cfg.countInvalidFrames = false →
    (id ≠ s.expectedId ∨ (id.toNat + idc.toNat) % 256 ≠ 255 ∨ crc16 p ≠ word crcHi crcLo) →
    s.writes.headD true = true →
    ∃ t, core.run 135 s = .next t ∧ t.hunting ∧ t.rx = rest ∧ t.supply = s.supply ∧ t.expectedId = s.expectedId ∧
      t.errCount = s.errCount ∧ t.tx = s.tx ++ [0x15] ∧ t.sinkw = s.sinkw) ∧
  ∀ (s : State) (id idc crcHi crcLo : Byte) (p : List Byte), s.hunting → p.length = 128 → s.rx = [] →
    s.supply = .repeats (.byte 0x01) (([id, idc] ++ p ++ [crcHi, crcLo]).map .byte) → s.cfg.countInvalidFrames = false →
    (id ≠ s.expectedId ∨ (id.toNat + idc.toNat) % 256 ≠ 255 ∨ crc16 p ≠ word crcHi crcLo) →
    (∀ ok ∈ s.writes, ok = true) →
    (∀ k : Nat, ∃ t, core.run k s = .next t ∧ t.cstate = .receiving ∧ t.result = none) ∧
    ∀ n : Nat, ∃ t, core.run (135 * n) s = .next t ∧ t.hunting ∧ t.rx = [] ∧ t.supply = s.supply ∧
      t.expectedId = s.expectedId ∧ t.errCount = s.errCount ∧ t.tx = s.tx ++ List.replicate n 0x15 ∧
      t.sinkw = s.sinkw

/-- The handshake times out (R122, R123, R143): with the polls of the remaining attempts false and their writes good, each
sends one `'C'` and delays, and the run ends in HandshakeTimeout with no byte read and the sink never called. That the last
failed poll is followed by a delay too, so that there are as many delays as attempts, is the spec's decision D12, log
entry 12. -/
def Obligations.SilentHandshakeTimesOut : Prop :=
  ∀ (s : State) (n : Nat) (more : List Bool), s.cstate = .negotiating → s.ctl = .turn →
    s.retryCount + n = s.cfg.handshakeRetries → s.avail = List.replicate n false ++ more →
    (∀ ok ∈ s.writes.take n, ok = true) →
    ∃ t, core.run (n + 1) s = .next t ∧ t.cstate = .failed .handshakeTimeout ∧ t.retryCount = s.cfg.handshakeRetries ∧
      t.rx = s.rx ∧ t.supply = s.supply ∧ t.avail = more ∧ t.writes = s.writes.drop n ∧
      t.tx = s.tx ++ List.replicate n 0x43 ∧
      t.delays = s.delays + n ∧ t.sinkw = s.sinkw

/-- The noise ceiling (R114, R128, R144): noise bytes one more than the ceiling leaves room for, each response good, are
answered with NAK each but the last, which is answered with CAN and ends the run in TooManyErrors; the sink is never
called. -/
def Obligations.NoiseOverTheCeilingEndsTheRun : Prop :=
  ∀ (s : State) (noise : List Byte) (last : Byte) (rest : List Answer), s.hunting →
    (∀ ok ∈ s.writes.take (noise.length + 1), ok = true) →
    s.errCount + noise.length = s.cfg.errCeiling → (∀ b ∈ noise ++ [last], b ≠ 0x01 ∧ b ≠ 0x04) →
    s.rx = (noise ++ [last]).map .byte ++ rest →
    ∃ t, core.run (4 * (noise.length + 1)) s = .next t ∧ t.cstate = .failed .tooManyErrors ∧ t.rx = rest ∧
      t.supply = s.supply ∧
      t.writes = s.writes.drop (noise.length + 1) ∧ t.errCount = s.cfg.errCeiling + 1 ∧ t.expectedId = s.expectedId ∧
      t.tx = s.tx ++ List.replicate noise.length 0x15 ++ [0x18] ∧ t.sinkw = s.sinkw
end

