-- ==== Sys2Proof/Laws/Crc.lean ====
section
/-! SUPPORT. The laws of the CRC arithmetic that other proofs cite. -/

namespace Sys2Proof.Machine

@[simp] theorem crcFrom_nil (c : Word) : crcFrom c [] = c := rfl

@[simp] theorem crcFrom_cons (c : Word) (b : Byte) (bs : List Byte) : crcFrom c (b :: bs) = crcFrom (crcByte c b) bs := rfl

/-- Folding in two parts. -/
theorem crcFrom_append (c : Word) (xs ys : List Byte) : crcFrom c (xs ++ ys) = crcFrom (crcFrom c xs) ys := by
  induction xs generalizing c with
  | nil => rfl
  | cons x xs ih => simp [ih]

/-- One more byte at the end of a buffer: CRC.UPD of the CRC so far. -/
theorem crc16_append_singleton (bs : List Byte) (b : Byte) : crc16 (bs ++ [b]) = crcByte (crc16 bs) b := by
  simp [crc16, crcFrom_append]

end Sys2Proof.Machine
end

