-- ==== Sys2Proof/Laws/Decode.lean ====
section
/-! SUPPORT. The laws of a byte list as one number (30_encoding.md R60, R61): where each byte's bits stand, and that the bytes
of the number are the list. -/

namespace Sys2Proof

/-- The number of a byte list has eight bits for each byte. -/
theorem bytesWord_lt (l : List Byte) : bytesWord l < 256 ^ l.length := by
  induction l with
  | nil => exact Nat.one_pos
  | cons b bs ih =>
    have hb : b.toNat + 1 ≤ 256 := b.isLt
    calc b.toNat * 256 ^ bs.length + bytesWord bs < (b.toNat + 1) * 256 ^ bs.length := by rw [Nat.succ_mul]; omega
      _ ≤ 256 * 256 ^ bs.length := Nat.mul_le_mul_right _ hb
      _ = 256 ^ (b :: bs).length := by rw [List.length_cons, Nat.pow_succ, Nat.mul_comm]

/-- The byte at offset `k` stands `8 * (length - 1 - k)` bits up: R61's bit numbers, for a frame. -/
theorem bytesWord_byte (l : List Byte) (k : Nat) (h : k < l.length) :
    bytesWord l / 256 ^ (l.length - 1 - k) % 256 = l[k].toNat := by
  induction l generalizing k with
  | nil => cases h
  | cons b bs ih =>
    have hb : b.toNat < 256 := b.isLt
    cases k with
    | zero =>
      show (b.toNat * 256 ^ bs.length + bytesWord bs) / 256 ^ bs.length % 256 = b.toNat
      rw [Nat.mul_comm, Nat.mul_add_div (Nat.pow_pos (by decide)), Nat.div_eq_of_lt (bytesWord_lt bs), Nat.add_zero,
        Nat.mod_eq_of_lt hb]
    | succ k =>
      have hk : k < bs.length := Nat.lt_of_succ_lt_succ h
      obtain ⟨d, hd⟩ : ∃ d, bs.length = (bs.length - 1 - k) + 1 + d := ⟨k, by omega⟩
      have he : (b :: bs).length - 1 - (k + 1) = bs.length - 1 - k := by rw [List.length_cons]; omega
      have hpow : b.toNat * 256 ^ bs.length = 256 ^ (bs.length - 1 - k) * (256 * (b.toNat * 256 ^ d)) := by
        conv_lhs => rw [hd, Nat.pow_add, Nat.pow_succ]
        ring
      rw [he, List.getElem_cons_succ, ← ih k hk, bytesWord, hpow, Nat.mul_add_div (Nat.pow_pos (by decide)),
        Nat.mul_add_mod]

/-- More bits above a number's bytes do not show in them. -/
theorem wordBytes_add (n w c : Nat) : wordBytes n (c * 256 ^ n + w) = wordBytes n w := by
  induction n generalizing c with
  | zero => rfl
  | succ n ih =>
    have hpow : c * 256 ^ (n + 1) = 256 ^ n * (256 * c) := by rw [Nat.pow_succ]; ring
    have htail : c * 256 ^ (n + 1) + w = (256 * c) * 256 ^ n + w := by rw [hpow, Nat.mul_comm]
    have hhead : BitVec.ofNat 8 ((c * 256 ^ (n + 1) + w) / 256 ^ n) = BitVec.ofNat 8 (w / 256 ^ n) := by
      rw [hpow, Nat.mul_add_div (Nat.pow_pos (by decide))]
      apply BitVec.eq_of_toNat_eq
      rw [BitVec.toNat_ofNat, BitVec.toNat_ofNat]
      exact Nat.mul_add_mod 256 c _
    rw [wordBytes, wordBytes, hhead, htail, ih]

/-- The bytes of a byte list's number are the list. -/
theorem wordBytes_bytesWord (l : List Byte) : wordBytes l.length (bytesWord l) = l := by
  induction l with
  | nil => rfl
  | cons b bs ih =>
    have hhead : BitVec.ofNat 8 ((b.toNat * 256 ^ bs.length + bytesWord bs) / 256 ^ bs.length) = b := by
      rw [Nat.mul_comm, Nat.mul_add_div (Nat.pow_pos (by decide)), Nat.div_eq_of_lt (bytesWord_lt bs), Nat.add_zero]
      exact BitVec.ofNat_toNat 8 b
    rw [List.length_cons, wordBytes, bytesWord, hhead, wordBytes_add, ih]

/-- The same for a word of whole bytes as the table numbers it. -/
theorem tableBytes_bytesWord (l : List Byte) : tableBytes (8 * l.length) (bytesWord l) = l := by
  rw [tableBytes, show (8 * l.length + 7) / 8 = l.length by omega, wordBytes_bytesWord]

end Sys2Proof
end

