-- ==== Sys2Proof/Laws/Memory.lean ====
section
/-! SUPPORT. The laws of the payload buffer: a read after a write, the canonical form is kept, and what a slice of the
buffer is after one more byte. -/

namespace Sys2Proof.Machine

@[simp] theorem Memory.read_nil (i : Nat) : Memory.read [] i = none := rfl

@[simp] theorem Memory.slice_zero (m : Memory) (i : Nat) : Memory.slice m i 0 = some [] := rfl

theorem Memory.read_write_same (m : Memory) (i : Nat) (v : Byte) : Memory.read (Memory.write m i v) i = some v := by
  induction m with
  | nil => simp [Memory.write, Memory.read]
  | cons c m ih =>
    obtain ⟨a, w⟩ := c
    simp only [Memory.write]
    split
    · simp [Memory.read]
    · split
      · simp [Memory.read]
      · rw [Memory.read, if_neg ‹¬i = a›, ih]

theorem Memory.read_write_other (m : Memory) (i j : Nat) (v : Byte) (h : j ≠ i) :
    Memory.read (Memory.write m i v) j = Memory.read m j := by
  induction m with
  | nil => simp [Memory.write, Memory.read, h]
  | cons c m ih =>
    obtain ⟨a, w⟩ := c
    simp only [Memory.write]
    split
    · simp [Memory.read, h]
    · split
      · subst_vars; simp [Memory.read, h]
      · simp only [Memory.read, ih]

theorem Memory.mem_write {m : Memory} {i : Nat} {v : Byte} {c : Host.Cell} (h : c ∈ Memory.write m i v) :
    c = (i, v) ∨ c ∈ m := by
  induction m with
  | nil => simpa [Memory.write] using h
  | cons d m ih =>
    obtain ⟨a, w⟩ := d
    simp only [Memory.write] at h
    split at h
    · simpa using h
    · split at h
      · simp only [List.mem_cons] at h ⊢; tauto
      · simp only [List.mem_cons] at h ⊢; tauto

/-- A write inside the buffer keeps the canonical form. -/
theorem Memory.wf_write {m : Memory} {i : Nat} {v : Byte} (h : Memory.wf m) (hi : i < blockSize) :
    Memory.wf (Memory.write m i v) := by
  refine ⟨?_, fun c hc => ?_⟩
  · obtain ⟨hp, -⟩ := h
    induction m with
    | nil => simp [Memory.write]
    | cons d m ih =>
      obtain ⟨a, w⟩ := d
      rw [List.pairwise_cons] at hp
      simp only [Memory.write]
      split
      · refine List.pairwise_cons.2 ⟨fun c hc => ?_, List.pairwise_cons.2 hp⟩
        rcases List.mem_cons.1 hc with rfl | hc
        · assumption
        · exact lt_trans ‹i < a› (hp.1 c hc)
      · split
        · subst_vars; exact List.pairwise_cons.2 hp
        · refine List.pairwise_cons.2 ⟨fun c hc => ?_, ih hp.2⟩
          rcases Memory.mem_write hc with rfl | hc
          · simp only; omega
          · exact hp.1 c hc
  · rcases Memory.mem_write hc with rfl | hc
    · exact hi
    · exact h.2 c hc

/-- Forgetting the buffer keeps the canonical form. -/
theorem Memory.wf_nil : Memory.wf [] := ⟨List.Pairwise.nil, by simp⟩

/-- A write beyond a slice leaves the slice. -/
theorem Memory.slice_write_beyond (m : Memory) (i n k : Nat) (v : Byte) (h : i + n ≤ k) :
    Memory.slice (Memory.write m k v) i n = Memory.slice m i n := by
  induction n generalizing i with
  | zero => rfl
  | succ n ih =>
    simp only [Memory.slice]
    rw [Memory.read_write_other m k i v (by omega), ih (i + 1) (by omega)]

/-- One more byte at the end of a slice. -/
theorem Memory.slice_append (m : Memory) (i n : Nat) (p : List Byte) (v : Byte)
    (h : Memory.slice m i n = some p) (hv : Memory.read m (i + n) = some v) :
    Memory.slice m i (n + 1) = some (p ++ [v]) := by
  induction n generalizing i p with
  | zero =>
    cases h
    simp only [Memory.slice, show Memory.read m i = some v from hv]
    rfl
  | succ n ih =>
    rw [Memory.slice] at h ⊢
    cases hr : Memory.read m i with
    | none => simp [hr] at h
    | some w =>
      cases hs : Memory.slice m (i + 1) n with
      | none => simp [hr, hs] at h
      | some q =>
        simp only [hr, hs, Option.some.injEq] at h
        subst h
        rw [ih (i + 1) q hs (by rwa [show i + 1 + n = i + (n + 1) by omega])]
        simp

/-- Writing the byte after a slice lengthens it by that byte. -/
theorem Memory.slice_write (m : Memory) (n : Nat) (p : List Byte) (v : Byte) (h : Memory.slice m 0 n = some p) :
    Memory.slice (Memory.write m n v) 0 (n + 1) = some (p ++ [v]) :=
  Memory.slice_append _ 0 n p v (by rwa [Memory.slice_write_beyond _ _ _ _ _ (by omega)])
    (by simpa using Memory.read_write_same m n v)

/-- A slice has the length asked for. -/
theorem Memory.slice_length {m : Memory} {i n : Nat} {p : List Byte} (h : Memory.slice m i n = some p) :
    p.length = n := by
  induction n generalizing i p with
  | zero => cases h; rfl
  | succ n ih =>
    rw [Memory.slice] at h
    split at h
    · cases h; simp [ih ‹_›]
    · cases h

end Sys2Proof.Machine
end

