-- ==== Sys2Proof/Laws/State.lean ====
section
/-! SUPPORT. One lemma per field per update of State: what an operation of Machine/Ops.lean leaves in each field. -/

namespace Sys2Proof.Machine

variable (s : State)

/-! ### State.record -/

@[simp] theorem State.record_crc (e : Event) : (s.record e).crc = s.crc := rfl
@[simp] theorem State.record_head (e : Event) : (s.record e).head = s.head := rfl
@[simp] theorem State.record_id (e : Event) : (s.record e).id = s.id := rfl
@[simp] theorem State.record_idc (e : Event) : (s.record e).idc = s.idc := rfl
@[simp] theorem State.record_payload (e : Event) : (s.record e).payload = s.payload := rfl
@[simp] theorem State.record_crcHi (e : Event) : (s.record e).crcHi = s.crcHi := rfl
@[simp] theorem State.record_crcLo (e : Event) : (s.record e).crcLo = s.crcLo := rfl
@[simp] theorem State.record_pos (e : Event) : (s.record e).pos = s.pos := rfl
@[simp] theorem State.record_expectedId (e : Event) : (s.record e).expectedId = s.expectedId := rfl
@[simp] theorem State.record_errCount (e : Event) : (s.record e).errCount = s.errCount := rfl
@[simp] theorem State.record_retryCount (e : Event) : (s.record e).retryCount = s.retryCount := rfl
@[simp] theorem State.record_cstate (e : Event) : (s.record e).cstate = s.cstate := rfl
@[simp] theorem State.record_cfg (e : Event) : (s.record e).cfg = s.cfg := rfl
@[simp] theorem State.record_ctl (e : Event) : (s.record e).ctl = s.ctl := rfl
@[simp] theorem State.record_out (e : Event) : (s.record e).out = s.out := rfl
@[simp] theorem State.record_rx (e : Event) : (s.record e).rx = s.rx := rfl
@[simp] theorem State.record_supply (e : Event) : (s.record e).supply = s.supply := rfl
@[simp] theorem State.record_avail (e : Event) : (s.record e).avail = s.avail := rfl
@[simp] theorem State.record_writes (e : Event) : (s.record e).writes = s.writes := rfl
@[simp] theorem State.record_sinks (e : Event) : (s.record e).sinks = s.sinks := rfl
@[simp] theorem State.record_calls (e : Event) : (s.record e).calls = s.calls := rfl
@[simp] theorem State.record_trace (e : Event) : (s.record e).trace = e :: s.trace := rfl
@[simp] theorem State.record_draws (e : Event) : (s.record e).draws = s.draws := rfl

/-! ### State.resume -/

@[simp] theorem State.resume_crc : (s.resume).crc = s.crc := rfl
@[simp] theorem State.resume_head : (s.resume).head = s.head := rfl
@[simp] theorem State.resume_id : (s.resume).id = s.id := rfl
@[simp] theorem State.resume_idc : (s.resume).idc = s.idc := rfl
@[simp] theorem State.resume_payload : (s.resume).payload = s.payload := rfl
@[simp] theorem State.resume_crcHi : (s.resume).crcHi = s.crcHi := rfl
@[simp] theorem State.resume_crcLo : (s.resume).crcLo = s.crcLo := rfl
@[simp] theorem State.resume_pos : (s.resume).pos = s.pos := rfl
@[simp] theorem State.resume_expectedId : (s.resume).expectedId = s.expectedId := rfl
@[simp] theorem State.resume_errCount : (s.resume).errCount = s.errCount := rfl
@[simp] theorem State.resume_retryCount : (s.resume).retryCount = s.retryCount := rfl
@[simp] theorem State.resume_cstate : (s.resume).cstate = s.cstate := rfl
@[simp] theorem State.resume_cfg : (s.resume).cfg = s.cfg := rfl
@[simp] theorem State.resume_ctl : (s.resume).ctl = .turn := rfl
@[simp] theorem State.resume_out : (s.resume).out = s.out := rfl
@[simp] theorem State.resume_rx : (s.resume).rx = s.rx := rfl
@[simp] theorem State.resume_supply : (s.resume).supply = s.supply := rfl
@[simp] theorem State.resume_avail : (s.resume).avail = s.avail := rfl
@[simp] theorem State.resume_writes : (s.resume).writes = s.writes := rfl
@[simp] theorem State.resume_sinks : (s.resume).sinks = s.sinks := rfl
@[simp] theorem State.resume_calls : (s.resume).calls = s.calls := rfl
@[simp] theorem State.resume_trace : (s.resume).trace = s.trace := rfl
@[simp] theorem State.resume_draws : (s.resume).draws = s.draws := rfl

/-! ### State.yields -/

@[simp] theorem State.yields_crc (y : Yield) : (s.yields y).crc = s.crc := rfl
@[simp] theorem State.yields_head (y : Yield) : (s.yields y).head = s.head := rfl
@[simp] theorem State.yields_id (y : Yield) : (s.yields y).id = s.id := rfl
@[simp] theorem State.yields_idc (y : Yield) : (s.yields y).idc = s.idc := rfl
@[simp] theorem State.yields_payload (y : Yield) : (s.yields y).payload = s.payload := rfl
@[simp] theorem State.yields_crcHi (y : Yield) : (s.yields y).crcHi = s.crcHi := rfl
@[simp] theorem State.yields_crcLo (y : Yield) : (s.yields y).crcLo = s.crcLo := rfl
@[simp] theorem State.yields_pos (y : Yield) : (s.yields y).pos = s.pos := rfl
@[simp] theorem State.yields_expectedId (y : Yield) : (s.yields y).expectedId = s.expectedId := rfl
@[simp] theorem State.yields_errCount (y : Yield) : (s.yields y).errCount = s.errCount := rfl
@[simp] theorem State.yields_retryCount (y : Yield) : (s.yields y).retryCount = s.retryCount := rfl
@[simp] theorem State.yields_cstate (y : Yield) : (s.yields y).cstate = s.cstate := rfl
@[simp] theorem State.yields_cfg (y : Yield) : (s.yields y).cfg = s.cfg := rfl
@[simp] theorem State.yields_ctl (y : Yield) : (s.yields y).ctl = s.ctl := rfl
@[simp] theorem State.yields_out (y : Yield) : (s.yields y).out = some y := rfl
@[simp] theorem State.yields_rx (y : Yield) : (s.yields y).rx = s.rx := rfl
@[simp] theorem State.yields_supply (y : Yield) : (s.yields y).supply = s.supply := rfl
@[simp] theorem State.yields_avail (y : Yield) : (s.yields y).avail = s.avail := rfl
@[simp] theorem State.yields_writes (y : Yield) : (s.yields y).writes = s.writes := rfl
@[simp] theorem State.yields_sinks (y : Yield) : (s.yields y).sinks = s.sinks := rfl
@[simp] theorem State.yields_calls (y : Yield) : (s.yields y).calls = s.calls := rfl
@[simp] theorem State.yields_trace (y : Yield) : (s.yields y).trace = s.trace := rfl
@[simp] theorem State.yields_draws (y : Yield) : (s.yields y).draws = s.draws := rfl

/-! ### State.delay -/

@[simp] theorem State.delay_crc : (s.delay).crc = s.crc := rfl
@[simp] theorem State.delay_head : (s.delay).head = s.head := rfl
@[simp] theorem State.delay_id : (s.delay).id = s.id := rfl
@[simp] theorem State.delay_idc : (s.delay).idc = s.idc := rfl
@[simp] theorem State.delay_payload : (s.delay).payload = s.payload := rfl
@[simp] theorem State.delay_crcHi : (s.delay).crcHi = s.crcHi := rfl
@[simp] theorem State.delay_crcLo : (s.delay).crcLo = s.crcLo := rfl
@[simp] theorem State.delay_pos : (s.delay).pos = s.pos := rfl
@[simp] theorem State.delay_expectedId : (s.delay).expectedId = s.expectedId := rfl
@[simp] theorem State.delay_errCount : (s.delay).errCount = s.errCount := rfl
@[simp] theorem State.delay_retryCount : (s.delay).retryCount = s.retryCount := rfl
@[simp] theorem State.delay_cstate : (s.delay).cstate = s.cstate := rfl
@[simp] theorem State.delay_cfg : (s.delay).cfg = s.cfg := rfl
@[simp] theorem State.delay_ctl : (s.delay).ctl = s.ctl := rfl
@[simp] theorem State.delay_out : (s.delay).out = s.out := rfl
@[simp] theorem State.delay_rx : (s.delay).rx = s.rx := rfl
@[simp] theorem State.delay_supply : (s.delay).supply = s.supply := rfl
@[simp] theorem State.delay_avail : (s.delay).avail = s.avail := rfl
@[simp] theorem State.delay_writes : (s.delay).writes = s.writes := rfl
@[simp] theorem State.delay_sinks : (s.delay).sinks = s.sinks := rfl
@[simp] theorem State.delay_calls : (s.delay).calls = s.calls := rfl
@[simp] theorem State.delay_trace : (s.delay).trace = .delay :: s.trace := rfl
@[simp] theorem State.delay_draws : (s.delay).draws = s.draws := rfl

/-! ### State.crcClr -/

@[simp] theorem State.crcClr_crc : (s.crcClr).crc = crcInit := rfl
@[simp] theorem State.crcClr_head : (s.crcClr).head = s.head := rfl
@[simp] theorem State.crcClr_id : (s.crcClr).id = s.id := rfl
@[simp] theorem State.crcClr_idc : (s.crcClr).idc = s.idc := rfl
@[simp] theorem State.crcClr_payload : (s.crcClr).payload = s.payload := rfl
@[simp] theorem State.crcClr_crcHi : (s.crcClr).crcHi = s.crcHi := rfl
@[simp] theorem State.crcClr_crcLo : (s.crcClr).crcLo = s.crcLo := rfl
@[simp] theorem State.crcClr_pos : (s.crcClr).pos = s.pos := rfl
@[simp] theorem State.crcClr_expectedId : (s.crcClr).expectedId = s.expectedId := rfl
@[simp] theorem State.crcClr_errCount : (s.crcClr).errCount = s.errCount := rfl
@[simp] theorem State.crcClr_retryCount : (s.crcClr).retryCount = s.retryCount := rfl
@[simp] theorem State.crcClr_cstate : (s.crcClr).cstate = s.cstate := rfl
@[simp] theorem State.crcClr_cfg : (s.crcClr).cfg = s.cfg := rfl
@[simp] theorem State.crcClr_ctl : (s.crcClr).ctl = s.ctl := rfl
@[simp] theorem State.crcClr_out : (s.crcClr).out = s.out := rfl
@[simp] theorem State.crcClr_rx : (s.crcClr).rx = s.rx := rfl
@[simp] theorem State.crcClr_supply : (s.crcClr).supply = s.supply := rfl
@[simp] theorem State.crcClr_avail : (s.crcClr).avail = s.avail := rfl
@[simp] theorem State.crcClr_writes : (s.crcClr).writes = s.writes := rfl
@[simp] theorem State.crcClr_sinks : (s.crcClr).sinks = s.sinks := rfl
@[simp] theorem State.crcClr_calls : (s.crcClr).calls = s.calls := rfl
@[simp] theorem State.crcClr_trace : (s.crcClr).trace = s.trace := rfl
@[simp] theorem State.crcClr_draws : (s.crcClr).draws = s.draws := rfl

/-! ### State.crcUpd -/

@[simp] theorem State.crcUpd_crc (b : Byte) : (s.crcUpd b).crc = crcByte s.crc b := rfl
@[simp] theorem State.crcUpd_head (b : Byte) : (s.crcUpd b).head = s.head := rfl
@[simp] theorem State.crcUpd_id (b : Byte) : (s.crcUpd b).id = s.id := rfl
@[simp] theorem State.crcUpd_idc (b : Byte) : (s.crcUpd b).idc = s.idc := rfl
@[simp] theorem State.crcUpd_payload (b : Byte) : (s.crcUpd b).payload = s.payload := rfl
@[simp] theorem State.crcUpd_crcHi (b : Byte) : (s.crcUpd b).crcHi = s.crcHi := rfl
@[simp] theorem State.crcUpd_crcLo (b : Byte) : (s.crcUpd b).crcLo = s.crcLo := rfl
@[simp] theorem State.crcUpd_pos (b : Byte) : (s.crcUpd b).pos = s.pos := rfl
@[simp] theorem State.crcUpd_expectedId (b : Byte) : (s.crcUpd b).expectedId = s.expectedId := rfl
@[simp] theorem State.crcUpd_errCount (b : Byte) : (s.crcUpd b).errCount = s.errCount := rfl
@[simp] theorem State.crcUpd_retryCount (b : Byte) : (s.crcUpd b).retryCount = s.retryCount := rfl
@[simp] theorem State.crcUpd_cstate (b : Byte) : (s.crcUpd b).cstate = s.cstate := rfl
@[simp] theorem State.crcUpd_cfg (b : Byte) : (s.crcUpd b).cfg = s.cfg := rfl
@[simp] theorem State.crcUpd_ctl (b : Byte) : (s.crcUpd b).ctl = s.ctl := rfl
@[simp] theorem State.crcUpd_out (b : Byte) : (s.crcUpd b).out = s.out := rfl
@[simp] theorem State.crcUpd_rx (b : Byte) : (s.crcUpd b).rx = s.rx := rfl
@[simp] theorem State.crcUpd_supply (b : Byte) : (s.crcUpd b).supply = s.supply := rfl
@[simp] theorem State.crcUpd_avail (b : Byte) : (s.crcUpd b).avail = s.avail := rfl
@[simp] theorem State.crcUpd_writes (b : Byte) : (s.crcUpd b).writes = s.writes := rfl
@[simp] theorem State.crcUpd_sinks (b : Byte) : (s.crcUpd b).sinks = s.sinks := rfl
@[simp] theorem State.crcUpd_calls (b : Byte) : (s.crcUpd b).calls = s.calls := rfl
@[simp] theorem State.crcUpd_trace (b : Byte) : (s.crcUpd b).trace = s.trace := rfl
@[simp] theorem State.crcUpd_draws (b : Byte) : (s.crcUpd b).draws = s.draws := rfl

/-! ### State.seqInit -/

@[simp] theorem State.seqInit_crc : (s.seqInit).crc = s.crc := rfl
@[simp] theorem State.seqInit_head : (s.seqInit).head = s.head := rfl
@[simp] theorem State.seqInit_id : (s.seqInit).id = s.id := rfl
@[simp] theorem State.seqInit_idc : (s.seqInit).idc = s.idc := rfl
@[simp] theorem State.seqInit_payload : (s.seqInit).payload = s.payload := rfl
@[simp] theorem State.seqInit_crcHi : (s.seqInit).crcHi = s.crcHi := rfl
@[simp] theorem State.seqInit_crcLo : (s.seqInit).crcLo = s.crcLo := rfl
@[simp] theorem State.seqInit_pos : (s.seqInit).pos = s.pos := rfl
@[simp] theorem State.seqInit_expectedId : (s.seqInit).expectedId = 1 := rfl
@[simp] theorem State.seqInit_errCount : (s.seqInit).errCount = s.errCount := rfl
@[simp] theorem State.seqInit_retryCount : (s.seqInit).retryCount = s.retryCount := rfl
@[simp] theorem State.seqInit_cstate : (s.seqInit).cstate = s.cstate := rfl
@[simp] theorem State.seqInit_cfg : (s.seqInit).cfg = s.cfg := rfl
@[simp] theorem State.seqInit_ctl : (s.seqInit).ctl = s.ctl := rfl
@[simp] theorem State.seqInit_out : (s.seqInit).out = s.out := rfl
@[simp] theorem State.seqInit_rx : (s.seqInit).rx = s.rx := rfl
@[simp] theorem State.seqInit_supply : (s.seqInit).supply = s.supply := rfl
@[simp] theorem State.seqInit_avail : (s.seqInit).avail = s.avail := rfl
@[simp] theorem State.seqInit_writes : (s.seqInit).writes = s.writes := rfl
@[simp] theorem State.seqInit_sinks : (s.seqInit).sinks = s.sinks := rfl
@[simp] theorem State.seqInit_calls : (s.seqInit).calls = s.calls := rfl
@[simp] theorem State.seqInit_trace : (s.seqInit).trace = s.trace := rfl
@[simp] theorem State.seqInit_draws : (s.seqInit).draws = s.draws := rfl

/-! ### State.seqAdv -/

@[simp] theorem State.seqAdv_crc : (s.seqAdv).crc = s.crc := rfl
@[simp] theorem State.seqAdv_head : (s.seqAdv).head = s.head := rfl
@[simp] theorem State.seqAdv_id : (s.seqAdv).id = s.id := rfl
@[simp] theorem State.seqAdv_idc : (s.seqAdv).idc = s.idc := rfl
@[simp] theorem State.seqAdv_payload : (s.seqAdv).payload = s.payload := rfl
@[simp] theorem State.seqAdv_crcHi : (s.seqAdv).crcHi = s.crcHi := rfl
@[simp] theorem State.seqAdv_crcLo : (s.seqAdv).crcLo = s.crcLo := rfl
@[simp] theorem State.seqAdv_pos : (s.seqAdv).pos = s.pos := rfl
@[simp] theorem State.seqAdv_expectedId : (s.seqAdv).expectedId = s.expectedId + 1 := rfl
@[simp] theorem State.seqAdv_errCount : (s.seqAdv).errCount = s.errCount := rfl
@[simp] theorem State.seqAdv_retryCount : (s.seqAdv).retryCount = s.retryCount := rfl
@[simp] theorem State.seqAdv_cstate : (s.seqAdv).cstate = s.cstate := rfl
@[simp] theorem State.seqAdv_cfg : (s.seqAdv).cfg = s.cfg := rfl
@[simp] theorem State.seqAdv_ctl : (s.seqAdv).ctl = s.ctl := rfl
@[simp] theorem State.seqAdv_out : (s.seqAdv).out = s.out := rfl
@[simp] theorem State.seqAdv_rx : (s.seqAdv).rx = s.rx := rfl
@[simp] theorem State.seqAdv_supply : (s.seqAdv).supply = s.supply := rfl
@[simp] theorem State.seqAdv_avail : (s.seqAdv).avail = s.avail := rfl
@[simp] theorem State.seqAdv_writes : (s.seqAdv).writes = s.writes := rfl
@[simp] theorem State.seqAdv_sinks : (s.seqAdv).sinks = s.sinks := rfl
@[simp] theorem State.seqAdv_calls : (s.seqAdv).calls = s.calls := rfl
@[simp] theorem State.seqAdv_trace : (s.seqAdv).trace = s.trace := rfl
@[simp] theorem State.seqAdv_draws : (s.seqAdv).draws = s.draws := rfl

/-! ### State.errInc -/

@[simp] theorem State.errInc_crc : (s.errInc).crc = s.crc := rfl
@[simp] theorem State.errInc_head : (s.errInc).head = s.head := rfl
@[simp] theorem State.errInc_id : (s.errInc).id = s.id := rfl
@[simp] theorem State.errInc_idc : (s.errInc).idc = s.idc := rfl
@[simp] theorem State.errInc_payload : (s.errInc).payload = s.payload := rfl
@[simp] theorem State.errInc_crcHi : (s.errInc).crcHi = s.crcHi := rfl
@[simp] theorem State.errInc_crcLo : (s.errInc).crcLo = s.crcLo := rfl
@[simp] theorem State.errInc_pos : (s.errInc).pos = s.pos := rfl
@[simp] theorem State.errInc_expectedId : (s.errInc).expectedId = s.expectedId := rfl
@[simp] theorem State.errInc_errCount : (s.errInc).errCount = s.errCount + 1 := rfl
@[simp] theorem State.errInc_retryCount : (s.errInc).retryCount = s.retryCount := rfl
@[simp] theorem State.errInc_cstate : (s.errInc).cstate = s.cstate := rfl
@[simp] theorem State.errInc_cfg : (s.errInc).cfg = s.cfg := rfl
@[simp] theorem State.errInc_ctl : (s.errInc).ctl = s.ctl := rfl
@[simp] theorem State.errInc_out : (s.errInc).out = s.out := rfl
@[simp] theorem State.errInc_rx : (s.errInc).rx = s.rx := rfl
@[simp] theorem State.errInc_supply : (s.errInc).supply = s.supply := rfl
@[simp] theorem State.errInc_avail : (s.errInc).avail = s.avail := rfl
@[simp] theorem State.errInc_writes : (s.errInc).writes = s.writes := rfl
@[simp] theorem State.errInc_sinks : (s.errInc).sinks = s.sinks := rfl
@[simp] theorem State.errInc_calls : (s.errInc).calls = s.calls := rfl
@[simp] theorem State.errInc_trace : (s.errInc).trace = s.trace := rfl
@[simp] theorem State.errInc_draws : (s.errInc).draws = s.draws := rfl

/-! ### State.errClr -/

@[simp] theorem State.errClr_crc : (s.errClr).crc = s.crc := rfl
@[simp] theorem State.errClr_head : (s.errClr).head = s.head := rfl
@[simp] theorem State.errClr_id : (s.errClr).id = s.id := rfl
@[simp] theorem State.errClr_idc : (s.errClr).idc = s.idc := rfl
@[simp] theorem State.errClr_payload : (s.errClr).payload = s.payload := rfl
@[simp] theorem State.errClr_crcHi : (s.errClr).crcHi = s.crcHi := rfl
@[simp] theorem State.errClr_crcLo : (s.errClr).crcLo = s.crcLo := rfl
@[simp] theorem State.errClr_pos : (s.errClr).pos = s.pos := rfl
@[simp] theorem State.errClr_expectedId : (s.errClr).expectedId = s.expectedId := rfl
@[simp] theorem State.errClr_errCount : (s.errClr).errCount = 0 := rfl
@[simp] theorem State.errClr_retryCount : (s.errClr).retryCount = s.retryCount := rfl
@[simp] theorem State.errClr_cstate : (s.errClr).cstate = s.cstate := rfl
@[simp] theorem State.errClr_cfg : (s.errClr).cfg = s.cfg := rfl
@[simp] theorem State.errClr_ctl : (s.errClr).ctl = s.ctl := rfl
@[simp] theorem State.errClr_out : (s.errClr).out = s.out := rfl
@[simp] theorem State.errClr_rx : (s.errClr).rx = s.rx := rfl
@[simp] theorem State.errClr_supply : (s.errClr).supply = s.supply := rfl
@[simp] theorem State.errClr_avail : (s.errClr).avail = s.avail := rfl
@[simp] theorem State.errClr_writes : (s.errClr).writes = s.writes := rfl
@[simp] theorem State.errClr_sinks : (s.errClr).sinks = s.sinks := rfl
@[simp] theorem State.errClr_calls : (s.errClr).calls = s.calls := rfl
@[simp] theorem State.errClr_trace : (s.errClr).trace = s.trace := rfl
@[simp] theorem State.errClr_draws : (s.errClr).draws = s.draws := rfl

/-! ### State.emit -/

@[simp] theorem State.emit_crc (e : FramerEvent) : (s.emit e).crc = s.crc := rfl
@[simp] theorem State.emit_head (e : FramerEvent) : (s.emit e).head = s.head := rfl
@[simp] theorem State.emit_id (e : FramerEvent) : (s.emit e).id = s.id := rfl
@[simp] theorem State.emit_idc (e : FramerEvent) : (s.emit e).idc = s.idc := rfl
@[simp] theorem State.emit_payload (e : FramerEvent) : (s.emit e).payload = s.payload := rfl
@[simp] theorem State.emit_crcHi (e : FramerEvent) : (s.emit e).crcHi = s.crcHi := rfl
@[simp] theorem State.emit_crcLo (e : FramerEvent) : (s.emit e).crcLo = s.crcLo := rfl
@[simp] theorem State.emit_pos (e : FramerEvent) : (s.emit e).pos = s.pos := rfl
@[simp] theorem State.emit_expectedId (e : FramerEvent) : (s.emit e).expectedId = s.expectedId := rfl
@[simp] theorem State.emit_errCount (e : FramerEvent) : (s.emit e).errCount = s.errCount := rfl
@[simp] theorem State.emit_retryCount (e : FramerEvent) : (s.emit e).retryCount = s.retryCount := rfl
@[simp] theorem State.emit_cstate (e : FramerEvent) : (s.emit e).cstate = s.cstate := rfl
@[simp] theorem State.emit_cfg (e : FramerEvent) : (s.emit e).cfg = s.cfg := rfl
@[simp] theorem State.emit_out (e : FramerEvent) : (s.emit e).out = s.out := rfl
@[simp] theorem State.emit_rx (e : FramerEvent) : (s.emit e).rx = s.rx := rfl
@[simp] theorem State.emit_supply (e : FramerEvent) : (s.emit e).supply = s.supply := rfl
@[simp] theorem State.emit_avail (e : FramerEvent) : (s.emit e).avail = s.avail := rfl
@[simp] theorem State.emit_writes (e : FramerEvent) : (s.emit e).writes = s.writes := rfl
@[simp] theorem State.emit_sinks (e : FramerEvent) : (s.emit e).sinks = s.sinks := rfl
@[simp] theorem State.emit_calls (e : FramerEvent) : (s.emit e).calls = s.calls := rfl
@[simp] theorem State.emit_trace (e : FramerEvent) : (s.emit e).trace = s.trace := rfl
@[simp] theorem State.emit_draws (e : FramerEvent) : (s.emit e).draws = s.draws := rfl
@[simp] theorem State.emit_ctl_more : (s.emit .more).ctl = .turn := rfl
@[simp] theorem State.emit_ctl_noise : (s.emit .noise).ctl = .evNoise := rfl
@[simp] theorem State.emit_ctl_eot : (s.emit .eot).ctl = .evEot := rfl
@[simp] theorem State.emit_ctl_frame : (s.emit .frame).ctl = .evFrame := rfl

/-! ### State.raise: the trace grows, and a terminal event ends the run (60_exceptions.md R148) -/

@[simp] theorem State.raise_crc (e : Raised) : (s.raise e).crc = s.crc := by cases e <;> rfl
@[simp] theorem State.raise_head (e : Raised) : (s.raise e).head = s.head := by cases e <;> rfl
@[simp] theorem State.raise_id (e : Raised) : (s.raise e).id = s.id := by cases e <;> rfl
@[simp] theorem State.raise_idc (e : Raised) : (s.raise e).idc = s.idc := by cases e <;> rfl
@[simp] theorem State.raise_payload (e : Raised) : (s.raise e).payload = s.payload := by cases e <;> rfl
@[simp] theorem State.raise_crcHi (e : Raised) : (s.raise e).crcHi = s.crcHi := by cases e <;> rfl
@[simp] theorem State.raise_crcLo (e : Raised) : (s.raise e).crcLo = s.crcLo := by cases e <;> rfl
@[simp] theorem State.raise_pos (e : Raised) : (s.raise e).pos = s.pos := by cases e <;> rfl
@[simp] theorem State.raise_expectedId (e : Raised) : (s.raise e).expectedId = s.expectedId := by cases e <;> rfl
@[simp] theorem State.raise_errCount (e : Raised) : (s.raise e).errCount = s.errCount := by cases e <;> rfl
@[simp] theorem State.raise_retryCount (e : Raised) : (s.raise e).retryCount = s.retryCount := by cases e <;> rfl
@[simp] theorem State.raise_cfg (e : Raised) : (s.raise e).cfg = s.cfg := by cases e <;> rfl
@[simp] theorem State.raise_out (e : Raised) : (s.raise e).out = s.out := by cases e <;> rfl
@[simp] theorem State.raise_rx (e : Raised) : (s.raise e).rx = s.rx := by cases e <;> rfl
@[simp] theorem State.raise_supply (e : Raised) : (s.raise e).supply = s.supply := by cases e <;> rfl
@[simp] theorem State.raise_avail (e : Raised) : (s.raise e).avail = s.avail := by cases e <;> rfl
@[simp] theorem State.raise_writes (e : Raised) : (s.raise e).writes = s.writes := by cases e <;> rfl
@[simp] theorem State.raise_sinks (e : Raised) : (s.raise e).sinks = s.sinks := by cases e <;> rfl
@[simp] theorem State.raise_calls (e : Raised) : (s.raise e).calls = s.calls := by cases e <;> rfl
@[simp] theorem State.raise_trace (e : Raised) : (s.raise e).trace = Event.raised e :: s.trace := by cases e <;> rfl
@[simp] theorem State.raise_draws (e : Raised) : (s.raise e).draws = s.draws := by cases e <;> rfl

/-- A recovered event changes nothing but the trace. -/
theorem State.raise_recovered (e : Raised) (h : e.cause = none) : s.raise e = s.record (.raised e) := by
  cases e <;> first | rfl | cases h

/-- A terminal event ends the run with its cause. -/
theorem State.raise_terminal (e : Raised) (c : Cause) (h : e.cause = some c) :
    s.raise e = { s.record (.raised e) with cstate := .failed c, ctl := .turn } := by
  cases e <;> cases h <;> rfl

end Sys2Proof.Machine
end

