-- ==== Sys2Proof/Laws/Ops.lean ====
section
/-! SUPPORT. One lemma per shared operation that says everything it can do. -/

namespace Sys2Proof.Machine

/-- An operation with a trigger answers a next state only where it is due. -/
theorem whenDue_next {due : Prop} [Decidable due] {op : String} {o : Host.Outcome State Fault Refusal} {t : State} :
    whenDue due op o = .next t ↔ due ∧ o = .next t := by
  unfold whenDue; split <;> simp_all

/-- Where it is due, it acts. -/
theorem whenDue_pos {due : Prop} [Decidable due] {op : String} {o : Host.Outcome State Fault Refusal} (h : due) :
    whenDue due op o = o := if_pos h

/-- Where it is not due, it is refused by its mnemonic. -/
theorem whenDue_neg {due : Prop} [Decidable due] {op : String} {o : Host.Outcome State Fault Refusal} (h : ¬ due) :
    whenDue due op o = .refused (.outsideTrigger op) := if_neg h

/-- A payload write inside the buffer. -/
theorem State.memWrite_ok (s : State) (i : Nat) (v : Byte) (h : i < blockSize) :
    s.memWrite i v = .ok { s with payload := s.payload.write i v } := if_pos h

/-- The index of a payload byte is inside the buffer wherever RX.DATA is due. -/
theorem payloadIndex_lt {pos : Byte} (h : pos ≤ 130) : payloadIndex pos < blockSize := by
  have : pos.toNat ≤ 130 := by simpa [BitVec.le_def] using h
  simp only [payloadIndex, blockSize]; omega

/-- `Send` when the channel takes the byte. -/
theorem State.send_ok (s : State) (b : Byte) (k : State → State) (h : s.writes.headD true = true) :
    s.send b k = k { s with writes := s.writes.tail, trace := .write b true :: s.trace } := by
  simp only [State.send, State.chanWrite, h]; rfl

/-- `Send` when the channel fails: ChannelFailure, and the rest of the operation is not done. -/
theorem State.send_err (s : State) (b : Byte) (k : State → State) (h : s.writes.headD true = false) :
    s.send b k = { s with writes := s.writes.tail, cstate := .failed .channelFailure, ctl := .turn,
                          trace := .raised (.channelFailure .write none) :: .write b false :: s.trace } := by
  simp only [State.send, State.chanWrite, h]; rfl

/-- `Send` does one of two things. -/
theorem State.send_cases (s : State) (b : Byte) (k : State → State) :
    s.send b k = k { s with writes := s.writes.tail, trace := .write b true :: s.trace } ∨
    s.send b k = { s with writes := s.writes.tail, cstate := .failed .channelFailure, ctl := .turn,
                          trace := .raised (.channelFailure .write none) :: .write b false :: s.trace } := by
  cases h : s.writes.headD true
  · exact .inr (s.send_err b k h)
  · exact .inl (s.send_ok b k h)

/-- A poll that answers true begins the packet loop and takes no byte. -/
theorem State.poll_true (s : State) (h : s.avail.headD true = true) :
    s.poll = { s with cstate := .receiving, avail := s.avail.tail, trace := .avail true :: s.trace } := by
  simp only [State.poll, State.chanAvail, h]; rfl

/-- A poll that answers false is followed by a delay. -/
theorem State.poll_false (s : State) (h : s.avail.headD true = false) :
    s.poll = { s with avail := s.avail.tail, trace := .delay :: .avail false :: s.trace } := by
  simp only [State.poll, State.chanAvail, h]; rfl

/-- The complement test, in numbers. -/
theorem State.cmpOk_eq (s : State) : s.cmpOk = decide ((s.id.toNat + s.idc.toNat) % 256 = 255) := by
  unfold State.cmpOk
  refine decide_eq_decide.2 ⟨fun h => ?_, fun h => BitVec.eq_of_toNat_eq ?_⟩
  · have := congrArg BitVec.toNat h; simp at this; omega
  · have := s.id.isLt; have := s.idc.isLt; simp; omega

/-- The verdict on a frame as one decision. -/
theorem State.frameValid_eq (s : State) : s.frameValid = decide (s.id = s.expectedId ∧
    (s.id.toNat + s.idc.toNat) % 256 = 255 ∧ s.crc = word s.crcHi s.crcLo) := by
  rw [Bool.eq_iff_iff]
  simp only [State.frameValid, State.cmpOk_eq, Bool.and_eq_true, decide_eq_true_eq, and_assoc]
  exact and_congr decide_eq_true_iff (and_congr Iff.rfl decide_eq_true_iff)

/-- ERR.INC counts a noise byte after `EvNoise`. -/
theorem State.toCount_noise (s : State) (h : s.stands .evNoise) : s.toCount = some .noise := if_pos h

/-- ERR.INC has nothing to count at any other point, unless refused frames count. -/
theorem State.toCount_none (s : State) (h : ¬ s.stands .evNoise) (hf : s.cfg.countInvalidFrames = false) :
    s.toCount = none := by
  rw [State.toCount, if_neg h, if_neg (by simp [hf])]

/-- ERR.INC counts a refused frame where refused frames count. -/
theorem State.toCount_badFrame (s : State) (h : s.stands .invalid) (hf : s.cfg.countInvalidFrames = true) :
    s.toCount = some .badFrame := by
  rw [State.toCount, if_neg (by simp [h.2]), if_pos ⟨h, hf⟩]

/-- ERR.CHK is due exactly after an increment. -/
theorem State.justCounted_iff (s : State) (what : Counted) : s.justCounted = some what ↔ s.stands (.counted what) := by
  unfold State.justCounted
  split <;> simp_all [State.stands]

/-- In the packet loop, at a point where an operation is due, the fetch is that operation and asks nothing. -/
theorem State.fetch_due (s : State) (i : Instr) (h : s.cstate = .receiving) (hd : s.due = some i) :
    s.fetch = some (i, s) := by
  simp only [State.fetch, h, hd]

/-- At the top of a turn the fetch is what the next answer of `ChanRead` selects, if there is one. -/
theorem State.fetch_top (s : State) (h : s.cstate = .receiving) (hd : s.due = none) :
    s.fetch = s.chanRead.map fun p => (decode s.pos p.1, p.2) := by
  simp only [State.fetch, h, hd]

theorem State.fetch_negotiating (s : State) (h : s.cstate = .negotiating) : s.fetch = some (s.dueHandshake, s) := by
  simp only [State.fetch, h]

/-- A step at a point where an operation is due. -/
theorem step_due (s : State) (i : Instr) (h : s.cstate = .receiving) (hd : s.due = some i) : step s = exec i s := by
  simp only [step, State.fetch_due s i h hd]

/-- An answer of the list is the next answer. -/
theorem State.nextAnswer_cons {s : State} {r : Answer} {rest : List Answer} (h : s.rx = r :: rest) :
    s.nextAnswer = some (r, rest, s.supply) := by
  simp only [State.nextAnswer, h]

/-- After the list the supply answers. -/
theorem State.nextAnswer_nil {s : State} (h : s.rx = []) : s.nextAnswer = s.supply.next := by
  simp only [State.nextAnswer, h]

/-- A supply of repeated answers is as the list of them, with the same supply after it. -/
theorem State.nextAnswer_repeats {s : State} {first : Answer} {rest : List Answer} (h : s.rx = [])
    (hs : s.supply = .repeats first rest) :
    s.nextAnswer = ({ s with rx := first :: rest } : State).nextAnswer := by
  rw [State.nextAnswer_nil h, State.nextAnswer_cons rfl, hs, Supply.next]

/-- `ChanRead` blocks exactly if the list is empty and the supply is `blocks`. -/
theorem State.nextAnswer_none {s : State} : s.nextAnswer = none ↔ s.rx = [] ∧ s.supply = .blocks := by
  unfold State.nextAnswer Supply.next
  split <;> rename_i h <;> simp only [h]
  · split <;> simp_all
  · simp

/-- A step at the top of a turn takes one answer and runs the operation it selects. -/
theorem step_read (s : State) (r : Answer) (rest : List Answer) (sup : Supply) (h : s.cstate = .receiving)
    (hc : s.ctl = .turn) (hr : s.nextAnswer = some (r, rest, sup)) :
    step s = exec (decode s.pos r)
      { s with rx := rest, supply := sup, ctl := .answered r, trace := .read r :: s.trace } := by
  have hd : s.due = none := by simp only [State.due, hc]
  simp only [step, State.fetch_top s h hd, State.chanRead, hr, Option.map]; rfl

end Sys2Proof.Machine
end

