-- ==== Sys2Proof/Laws/PerInstr.lean ====
section
/-! SUPPORT. A property of every operation's encoding as syntax, one lemma per constructor: the byte it sends, if any, is
one of the four values of `CTRL_TX` (30_encoding.md R63); it takes at most one byte from the receive stream, and exactly
one where a position selects it (R49, R68, R69). -/

namespace Sys2Proof.Laws.Format

def Statement (i : Instr) : Prop :=
  (∀ b, sends i = some b → b = 0x43 ∨ b = 0x06 ∨ b = 0x15 ∨ b = 0x18) ∧
  (encode i).length ≤ 1 ∧ ∀ pos, encodesAt pos i = true → (encode i).length = 1

theorem crcClr : Statement .crcClr := by simp [Statement, sends, encode, encodesAt]
theorem crcBit (c : Word) : Statement (.crcBit c) := by simp [Statement, sends, encode, encodesAt]
theorem crcBuf (buf : List Byte) : Statement (.crcBuf buf) := by simp [Statement, sends, encode, encodesAt]
theorem crcUpd (b : Byte) : Statement (.crcUpd b) := by simp [Statement, sends, encode, encodesAt]
theorem rxSoh : Statement .rxSoh := by simp [Statement, sends, encode, encodesAt]
theorem rxEot : Statement .rxEot := by simp [Statement, sends, encode, encodesAt]
theorem rxNoise (b : Byte) : Statement (.rxNoise b) := by simp [Statement, sends, encode, encodesAt]
theorem rxId (b : Byte) : Statement (.rxId b) := by simp [Statement, sends, encode, encodesAt]
theorem rxIdc (b : Byte) : Statement (.rxIdc b) := by simp [Statement, sends, encode, encodesAt]
theorem rxData (b : Byte) : Statement (.rxData b) := by simp [Statement, sends, encode, encodesAt]
theorem rxCrch (b : Byte) : Statement (.rxCrch b) := by simp [Statement, sends, encode, encodesAt]
theorem rxCrcl (b : Byte) : Statement (.rxCrcl b) := by simp [Statement, sends, encode, encodesAt]
theorem rxErr : Statement .rxErr := by simp [Statement, sends, encode, encodesAt]
theorem valSeq : Statement .valSeq := by simp [Statement, sends, encode, encodesAt]
theorem valCmp : Statement .valCmp := by simp [Statement, sends, encode, encodesAt]
theorem valCrc : Statement .valCrc := by simp [Statement, sends, encode, encodesAt]
theorem valFrame : Statement .valFrame := by simp [Statement, sends, encode, encodesAt]
theorem seqInit : Statement .seqInit := by simp [Statement, sends, encode, encodesAt]
theorem seqAdv : Statement .seqAdv := by simp [Statement, sends, encode, encodesAt]
theorem errInc : Statement .errInc := by simp [Statement, sends, encode, encodesAt]
theorem errClr : Statement .errClr := by simp [Statement, sends, encode, encodesAt]
theorem errChk : Statement .errChk := by simp [Statement, sends, encode, encodesAt]
theorem recv (cfg : Config) : Statement (.recv cfg) := by simp [Statement, sends, encode, encodesAt]
theorem hsTry : Statement .hsTry := by simp [Statement, sends, encode, encodesAt]
theorem hsFail : Statement .hsFail := by simp [Statement, sends, encode, encodesAt]
theorem rspAckEot : Statement .rspAckEot := by simp [Statement, sends, encode, encodesAt]
theorem rspNakNoise : Statement .rspNakNoise := by simp [Statement, sends, encode, encodesAt]
theorem rspCanNoise : Statement .rspCanNoise := by simp [Statement, sends, encode, encodesAt]
theorem rspSink : Statement .rspSink := by simp [Statement, sends, encode, encodesAt]
theorem rspAckFrame : Statement .rspAckFrame := by simp [Statement, sends, encode, encodesAt]
theorem rspCanSink (n : Nat) : Statement (.rspCanSink n) := by simp [Statement, sends, encode, encodesAt]
theorem rspNakFrame : Statement .rspNakFrame := by simp [Statement, sends, encode, encodesAt]
theorem failChan (during : During) : Statement (.failChan during) := by simp [Statement, sends, encode, encodesAt]

end Sys2Proof.Laws.Format
end

