-- ==== Sys2Proof/Laws/Step.lean ====
section
/-! SUPPORT. Everything one step can do, said once: from a state whose control stands between two operations and whose
position is in range, a step that answers a next state is one of the cases of `StepCase`, each with its next state
written out. Invariants and whole-machine rules are case analyses over it. -/

namespace Sys2Proof.Machine

/-- No run is in progress (10_state.md R32). -/
abbrev State.outside (s : State) : Prop := s.cstate = .idle ∨ s.terminal = true

/-- The cases of one step and their next states. -/
inductive StepCase (s : State) : State → Prop
  | noMove (h : s.stuck ∨ (s.outside ∧ s.calls = [])) : StepCase s s
  | recv (cfg : Config) (rest : List Config) (t : State) (h : s.outside) (hq : s.calls = cfg :: rest)
      (ht : execRecv cfg { s with calls := rest } = .next t) : StepCase s t
  | hsOpen (h : s.cstate = .negotiating) (hp : s.ctl = .turn) (hr : s.retryCount < s.cfg.handshakeRetries)
      (hw : s.writes.headD true = true) (ha : s.avail.headD true = true) :
      StepCase s { s with retryCount := s.retryCount + 1, cstate := .receiving, writes := s.writes.tail,
                          avail := s.avail.tail, trace := .avail true :: .write crcReq true :: s.trace }
  | hsWait (h : s.cstate = .negotiating) (hp : s.ctl = .turn) (hr : s.retryCount < s.cfg.handshakeRetries)
      (hw : s.writes.headD true = true) (ha : s.avail.headD true = false) :
      StepCase s { s with retryCount := s.retryCount + 1, writes := s.writes.tail, avail := s.avail.tail,
                          trace := .delay :: .avail false :: .write crcReq true :: s.trace }
  | hsWriteFailed (h : s.cstate = .negotiating) (hp : s.ctl = .turn) (hr : s.retryCount < s.cfg.handshakeRetries)
      (hw : s.writes.headD true = false) :
      StepCase s { s with retryCount := s.retryCount + 1, writes := s.writes.tail, cstate := .failed .channelFailure,
                          ctl := .turn,
                          trace := .raised (.channelFailure .write none) :: .write crcReq false :: s.trace }
  | hsFail (h : s.cstate = .negotiating) (hp : s.ctl = .turn) (hr : s.retryCount = s.cfg.handshakeRetries) :
      StepCase s { s with cstate := .failed .handshakeTimeout, ctl := .turn,
                          trace := .raised .handshakeTimeout :: s.trace }
  | rxErr (rest : List Answer) (sup : Supply) (h : s.stands .turn) (hr : s.nextAnswer = some (.chanErr, rest, sup)) :
      StepCase s { s with rx := rest, supply := sup, cstate := .failed .channelFailure, ctl := .turn,
                          trace := .raised (.channelFailure .read (some s.pos)) :: .read .chanErr :: s.trace }
  | rxSoh (rest : List Answer) (sup : Supply) (h : s.stands .turn)
      (hr : s.nextAnswer = some (.byte soh, rest, sup)) (hp : s.pos = 0) :
      StepCase s { s with rx := rest, supply := sup, head := soh, crc := crcInit, pos := 1, ctl := .turn,
                          trace := .read (.byte soh) :: s.trace }
  | rxEot (rest : List Answer) (sup : Supply) (h : s.stands .turn)
      (hr : s.nextAnswer = some (.byte eot, rest, sup)) (hp : s.pos = 0) :
      StepCase s { s with rx := rest, supply := sup, head := eot, pos := 0, ctl := .evEot,
                          trace := .read (.byte eot) :: s.trace }
  | rxNoise (b : Byte) (rest : List Answer) (sup : Supply) (h : s.stands .turn)
      (hr : s.nextAnswer = some (.byte b, rest, sup)) (hp : s.pos = 0)
      (h1 : b ≠ soh) (h2 : b ≠ eot) :
      StepCase s { s with rx := rest, supply := sup, head := b, pos := 0, ctl := .evNoise,
                          trace := .raised (.noiseByte b) :: .read (.byte b) :: s.trace }
  | rxId (b : Byte) (rest : List Answer) (sup : Supply) (h : s.stands .turn)
      (hr : s.nextAnswer = some (.byte b, rest, sup)) (hp : s.pos = 1) :
      StepCase s { s with rx := rest, supply := sup, id := b, pos := 2, ctl := .turn,
                          trace := .read (.byte b) :: s.trace }
  | rxIdc (b : Byte) (rest : List Answer) (sup : Supply) (h : s.stands .turn)
      (hr : s.nextAnswer = some (.byte b, rest, sup)) (hp : s.pos = 2) :
      StepCase s { s with rx := rest, supply := sup, idc := b, pos := 3, ctl := .turn,
                          trace := .read (.byte b) :: s.trace }
  | rxData (b : Byte) (rest : List Answer) (sup : Supply) (h : s.stands .turn)
      (hr : s.nextAnswer = some (.byte b, rest, sup)) (h1 : 3 ≤ s.pos)
      (h2 : s.pos ≤ 130) :
      StepCase s { s with rx := rest, supply := sup, payload := s.payload.write (payloadIndex s.pos) b,
                          crc := crcByte s.crc b, pos := s.pos + 1, ctl := .turn, trace := .read (.byte b) :: s.trace }
  | rxCrch (b : Byte) (rest : List Answer) (sup : Supply) (h : s.stands .turn)
      (hr : s.nextAnswer = some (.byte b, rest, sup)) (hp : s.pos = 131) :
      StepCase s { s with rx := rest, supply := sup, crcHi := b, pos := 132, ctl := .turn,
                          trace := .read (.byte b) :: s.trace }
  | rxCrcl (b : Byte) (rest : List Answer) (sup : Supply) (h : s.stands .turn)
      (hr : s.nextAnswer = some (.byte b, rest, sup)) (hp : s.pos = 132) :
      StepCase s { s with rx := rest, supply := sup, crcLo := b, pos := 0, ctl := .evFrame,
                          trace := .read (.byte b) :: s.trace }
  | errInc (what : Counted)
      (h : (s.stands .evNoise ∧ what = .noise) ∨ (s.stands .invalid ∧ s.cfg.countInvalidFrames = true ∧ what = .badFrame)) :
      StepCase s { s with errCount := s.errCount + 1, ctl := .counted what }
  | errChk (what : Counted) (h : s.stands (.counted what)) :
      StepCase s { s with ctl := .checked what s.overCeiling, out := some (.overCeiling s.overCeiling) }
  | ackEot (h : s.stands .evEot) (hw : s.writes.headD true = true) :
      StepCase s { s with cstate := .done, ctl := .turn, writes := s.writes.tail, trace := .write ack true :: s.trace }
  | nakNoise (h : s.stands (.checked .noise false)) (hw : s.writes.headD true = true) :
      StepCase s { s with ctl := .turn, writes := s.writes.tail, trace := .write nak true :: s.trace }
  | canNoise (what : Counted) (h : s.stands (.checked what true)) (hw : s.writes.headD true = true) :
      StepCase s { s with cstate := .failed .tooManyErrors, ctl := .turn, writes := s.writes.tail,
                          trace := .raised (.tooManyErrors s.errCount) :: .write can true :: s.trace }
  | valid (p : List Byte) (h : s.stands .evFrame) (hv : s.frameValid = true) (hp : s.block = some p) :
      StepCase s { s with ctl := .valid, out := some (.valid p) }
  | invalid (h : s.stands .evFrame) (hv : s.frameValid = false) :
      StepCase s { s with ctl := .invalid, out := some (.invalid s.causeBits),
                          trace := .raised (.invalidFrame s.causeBits) :: s.trace }
  | nakFrame (h : (s.stands .invalid ∧ s.cfg.countInvalidFrames = false) ∨ s.stands (.checked .badFrame false))
      (hw : s.writes.headD true = true) :
      StepCase s { s with ctl := .turn, writes := s.writes.tail, trace := .write nak true :: s.trace }
  | sink (p : List Byte) (h : s.stands .valid) (hp : s.block = some p) :
      StepCase s { s with ctl := .sunk (s.sinks.headD blockSize), out := some (.count (s.sinks.headD blockSize)),
                          sinks := s.sinks.tail, trace := .sink p (s.sinks.headD blockSize) :: s.trace }
  | ackFrame (h : s.stands (.sunk blockSize)) (hw : s.writes.headD true = true) :
      StepCase s { s with expectedId := s.expectedId + 1, errCount := 0, ctl := .turn, writes := s.writes.tail,
                          trace := .write ack true :: s.trace }
  | ackFrameFailed (h : s.stands (.sunk blockSize)) (hw : s.writes.headD true = false) :
      StepCase s { s with expectedId := s.expectedId + 1, errCount := 0, writes := s.writes.tail,
                          cstate := .failed .channelFailure, ctl := .turn,
                          trace := .raised (.channelFailure .write none) :: .write ack false :: s.trace }
  | canSink (n : Nat) (h : s.stands (.sunk n)) (hn : n ≠ blockSize) (hw : s.writes.headD true = true) :
      StepCase s { s with cstate := .failed .sinkWriteFailure, ctl := .turn, writes := s.writes.tail,
                          trace := .raised (.sinkWriteFailure n) :: .write can true :: s.trace }
  | responseFailed (i : Instr) (b : Byte) (h : s.cstate = .receiving) (hd : s.due = some i) (hb : sends i = some b)
      (hi : i ≠ .rspAckFrame) (hw : s.writes.headD true = false) :
      StepCase s { s with writes := s.writes.tail, cstate := .failed .channelFailure, ctl := .turn,
                          trace := .raised (.channelFailure .write none) :: .write b false :: s.trace }

/-- `Send` in one equation: it goes on after a good write, and a failed one ends the run. -/
theorem State.send_eq (s : State) (b : Byte) (k : State → State) :
    s.send b k = if s.writes.headD true = true then k { s with writes := s.writes.tail, trace := .write b true :: s.trace }
      else s.writeFails b := by
  split
  · exact s.send_ok b k ‹_›
  · exact s.send_err b k (Bool.eq_false_iff.2 ‹_›)

/-- A response that sends: either the channel takes the byte, or the run ends. -/
theorem StepCase.of_send {s : State} {i : Instr} {b : Byte} {k : State → State} (hc : s.cstate = .receiving)
    (hd : s.due = some i) (hb : sends i = some b) (hi : i ≠ .rspAckFrame)
    (hok : s.writes.headD true = true →
      StepCase s (k { s with writes := s.writes.tail, trace := .write b true :: s.trace })) :
    StepCase s (s.send b k) := by
  cases hw : s.writes.headD true
  · rw [s.send_err b k hw]; exact .responseFailed i b hc hd hb hi hw
  · rw [s.send_ok b k hw]; exact hok hw

/-- A step at the top of a turn. -/
theorem step_cases_read {s t : State} (r : Answer) (rest : List Answer) (sup : Supply) (hs : s.stands .turn)
    (hr : s.nextAnswer = some (r, rest, sup)) (h : step s = .next t) : StepCase s t := by
  rw [step_read s r rest sup hs.1 hs.2 hr] at h
  cases r with
  | chanErr =>
    obtain ⟨-, h⟩ := whenDue_next.1 (show whenDue _ _ _ = _ from h)
    cases h; exact .rxErr rest sup hs hr
  | byte b =>
    simp only [decode, decodeByte, decodeHead] at h
    split_ifs at h <;> obtain ⟨hd, h⟩ := whenDue_next.1 (show whenDue _ _ _ = _ from h)
    · subst_vars; cases h; exact .rxSoh rest sup hs hr hd.2
    · subst_vars; cases h; exact .rxEot rest sup hs hr hd.2
    · cases h; exact .rxNoise b rest sup hs hr hd.2.1 hd.2.2.1 hd.2.2.2
    · cases h; exact .rxId b rest sup hs hr hd.2
    · cases h; exact .rxIdc b rest sup hs hr hd.2
    · rw [State.memWrite_ok _ _ _ (payloadIndex_lt hd.2.2)] at h
      cases h; exact .rxData b rest sup hs hr hd.2.1 hd.2.2
    · cases h; exact .rxCrch b rest sup hs hr hd.2
    · cases h; exact .rxCrcl b rest sup hs hr hd.2

/-- A step at another point of the packet loop. -/
theorem step_cases_due {s t : State} (i : Instr) (hc : s.cstate = .receiving) (hset : s.ctl.settled = true)
    (hd : s.due = some i) (h : step s = .next t) : StepCase s t := by
  rw [step_due s i hc hd] at h
  have hq := hd
  unfold State.due at hd
  split at hd <;> rename_i hp
  · cases hd
  · simp [hp, Point.settled] at hset
  all_goals first | (simp [hp, Point.settled] at hset; done) | cases hd
  · simp only [exec, execErrInc, State.toCount, if_pos (⟨hc, hp⟩ : s.stands .evNoise)] at h
    cases h; exact .errInc .noise (.inl ⟨⟨hc, hp⟩, rfl⟩)
  · simp only [exec, execErrChk, State.justCounted, hc, hp] at h
    cases h; exact hc ▸ .errChk _ ⟨hc, hp⟩
  · obtain ⟨-, h⟩ := whenDue_next.1 (show whenDue _ _ _ = _ from h); cases h
    exact .of_send hc hq rfl (by simp) fun hw => .canNoise _ ⟨hc, hp⟩ hw
  · obtain ⟨-, h⟩ := whenDue_next.1 (show whenDue _ _ _ = _ from h); cases h
    exact .of_send hc hq rfl (by simp) fun hw => .nakNoise ⟨hc, hp⟩ hw
  · obtain ⟨-, h⟩ := whenDue_next.1 (show whenDue _ _ _ = _ from h); cases h
    exact .of_send hc hq rfl (by simp) fun hw => .nakFrame (.inr ⟨hc, hp⟩) hw
  · obtain ⟨-, h⟩ := whenDue_next.1 (show whenDue _ _ _ = _ from h); cases h
    exact .of_send hc hq rfl (by simp) fun hw => .ackEot ⟨hc, hp⟩ hw
  · obtain ⟨-, h⟩ := whenDue_next.1 (show whenDue _ _ _ = _ from h)
    split at h
    · split at h
      · cases h
      · cases h; exact .valid _ ⟨hc, hp⟩ ‹_› ‹_›
    · cases h; exact .invalid ⟨hc, hp⟩ (by simpa using ‹¬s.frameValid = true›)
  · obtain ⟨-, h⟩ := whenDue_next.1 (show whenDue _ _ _ = _ from h)
    split at h
    · cases h
    · cases h; exact .sink _ ⟨hc, hp⟩ ‹_›
  · split at h
    · simp only [exec, execErrInc, State.toCount, if_neg (show ¬ s.stands .evNoise by simp [hp]),
        if_pos (⟨⟨hc, hp⟩, ‹_›⟩ : s.stands .invalid ∧ s.cfg.countInvalidFrames = true)] at h
      cases h; exact .errInc .badFrame (.inr ⟨⟨hc, hp⟩, ‹_›, rfl⟩)
    · obtain ⟨-, h⟩ := whenDue_next.1 (show whenDue _ _ _ = _ from h)
      have hf : s.cfg.countInvalidFrames = false := by simpa using ‹¬s.cfg.countInvalidFrames = true›
      have hq : s.due = some .rspNakFrame := by simp only [State.due, hp, hf]; rfl
      cases h; exact .of_send hc hq rfl (by simp) fun hw => .nakFrame (.inl ⟨⟨hc, hp⟩, hf⟩) hw
  · split at h
    · subst_vars
      obtain ⟨-, h⟩ := whenDue_next.1 (show whenDue _ _ _ = _ from h); cases h
      cases hw : s.writes.headD true
      · rw [State.send_err s.seqAdv.errClr _ _ hw]; exact .ackFrameFailed ⟨hc, hp⟩ hw
      · rw [State.send_ok s.seqAdv.errClr _ _ hw]; exact .ackFrame ⟨hc, hp⟩ hw
    · have hn : ¬ _ = blockSize := ‹_›
      obtain ⟨-, h⟩ := whenDue_next.1 (show whenDue _ _ _ = _ from h); cases h
      exact .of_send hc (hq.trans (congrArg some (if_neg hn))) rfl (by simp) fun hw => .canSink _ ⟨hc, hp⟩ hn hw

/-- Outside a run the fetch is the first call that waits, if there is one. -/
theorem State.fetch_outside (s : State) (ho : s.outside) :
    s.fetch = match s.calls with
      | [] => none
      | cfg :: rest => some (.recv cfg, { s with calls := rest }) := by
  rcases ho with hc | hc
  · simp only [State.fetch, hc] <;> rfl
  · unfold State.terminal at hc
    split at hc <;> rename_i he <;> first | exact absurd hc (by decide) | (simp only [State.fetch, he] <;> rfl)

/-- Outside a run a step begins the first call that waits. -/
theorem step_outside (s : State) (cfg : Config) (rest : List Config) (ho : s.outside) (hq : s.calls = cfg :: rest) :
    step s = exec (.recv cfg) { s with calls := rest } := by
  unfold step
  rw [State.fetch_outside s ho, hq]

/-- In the handshake a step is the operation of its loop that is due. -/
theorem step_negotiating (s : State) (h : s.cstate = .negotiating) : step s = exec s.dueHandshake s := by
  unfold step
  rw [State.fetch_negotiating s h]

/-- Outside a run a step is RECV, or no move. -/
theorem step_cases_outside {s t : State} (ho : s.outside) (h : step s = .next t) : StepCase s t := by
  cases hq : s.calls with
  | nil =>
    unfold step at h
    rw [State.fetch_outside s ho, hq] at h
    cases h; exact .noMove (.inr ⟨ho, hq⟩)
  | cons cfg rest => exact .recv cfg rest t ho hq ((step_outside s cfg rest ho hq).symm.trans h)

/-- Everything one step can do from a state whose control stands between two operations. -/
theorem step_cases {s t : State} (hi : s.CtlInv) (h : step s = .next t) : StepCase s t := by
  cases hc : s.cstate with
  | idle => exact step_cases_outside (.inl hc) h
  | done => exact step_cases_outside (.inr (by simp [State.terminal, hc])) h
  | failed c => exact step_cases_outside (.inr (by simp [State.terminal, hc])) h
  | negotiating =>
    have hp : s.ctl = .turn := hi.2.1 (by simp [hc])
    have hn : s.ctl ≠ .writeFailed := by simp [hp]
    rw [step_negotiating s hc, State.dueHandshake, if_neg hn] at h
    split at h
    · obtain ⟨-, h⟩ := whenDue_next.1 (show whenDue _ _ _ = _ from h); cases h; exact .hsFail hc hp ‹_›
    · obtain ⟨hd, h⟩ := whenDue_next.1 (show whenDue _ _ _ = _ from h); cases h
      cases hw : s.writes.headD true
      · rw [State.send_err { s with retryCount := s.retryCount + 1 } _ _ hw]; exact .hsWriteFailed hc hp hd.2.2 hw
      · rw [State.send_ok { s with retryCount := s.retryCount + 1 } _ _ hw]
        cases ha : s.avail.headD true
        · rw [State.poll_false { s with retryCount := s.retryCount + 1, writes := s.writes.tail, trace := .write crcReq true :: s.trace } ha]; exact .hsWait hc hp hd.2.2 hw ha
        · rw [State.poll_true { s with retryCount := s.retryCount + 1, writes := s.writes.tail, trace := .write crcReq true :: s.trace } ha]; exact .hsOpen hc hp hd.2.2 hw ha
  | receiving =>
    cases hd : s.due with
    | some i => exact step_cases_due i hc hi.1 hd h
    | none =>
      have hp : s.ctl = .turn := by
        unfold State.due at hd
        split at hd <;> first | assumption | cases hd
      cases hr : s.nextAnswer with
      | none =>
        simp only [step, State.fetch_top s hc hd, State.chanRead, hr, Option.map] at h
        cases h; exact .noMove (.inl ⟨hc, hp, State.nextAnswer_none.1 hr⟩)
      | some a => obtain ⟨r, rest, sup⟩ := a; exact step_cases_read r rest sup ⟨hc, hp⟩ hr h

/-- A run of one step more begins with that step. -/
theorem core_run_succ (n : Nat) {s t : State} (h : step s = .next t) : core.run (n + 1) s = core.run n t := by
  have hc : core.step s = .next t := h
  simp only [Host.Core.run, hc]

/-- A run of `n + m` steps is a run of `m` steps from where `n` steps lead. -/
theorem core_run_add (n m : Nat) {s t : State} (h : core.run n s = .next t) : core.run (n + m) s = core.run m t := by
  induction n generalizing s with
  | zero => cases h; rw [Nat.zero_add]
  | succ n ih =>
    rw [Nat.succ_add_eq_add_succ, Nat.add_succ]
    cases hs : step s with
    | next u =>
      rw [core_run_succ n hs] at h
      rw [core_run_succ _ hs]
      exact ih h
    | fault r => simp only [Host.Core.run, show core.step s = _ from hs] at h; cases h
    | refused r => simp only [Host.Core.run, show core.step s = _ from hs] at h; cases h

end Sys2Proof.Machine
end

