-- ==== Sys2Proof/Tests/Slice0.lean ====
section
/-! SUPPORT. The model's own tests. Every expected value is the spec's (the rule or vector of 95_test_vectors.md is named),
and for every obligation with hypotheses a named witness meets them together. -/

namespace Sys2Proof.Tests

open Sys2Proof Sys2Proof.Machine

/-- A look at the next state, none if there is none. -/
def after {α : Type} (o : Host.Outcome State Fault Refusal) (f : State → α) : Option α :=
  match o with
  | .next t => some (f t)
  | .fault _ => none
  | .refused _ => none

/-- The packet loop at a point. -/
def loopAt (p : Point) : State := { State.reset with cstate := .receiving, ctl := p }

/-- A byte in hand at a position. -/
def inHand (b pos : Byte) : State := { loopAt (.answered (.byte b)) with pos := pos }

/-- The handshake after `n` attempts. -/
def handshake (n : Nat) : State := { State.reset with cstate := .negotiating, retryCount := n }

/-- The buffer with 128 bytes of 0x1A. -/
def buffer1A : Memory := (List.range 128).map fun k => (k, 0x1A)

/-- A completed frame with payload 128*1A (V4.1), at a point. -/
def frame1A (p : Point) (expected id idc : Byte) (rxCrc : Word) : State :=
  { loopAt p with payload := buffer1A, crc := 0xF8B0, expectedId := expected, id := id, idc := idc, crcHi := hiByte rxCrc,
                  crcLo := loByte rxCrc }

/-- A completed good frame with payload 128*00, whose CRC is 0 (V2.29), at a point. -/
def frame00 (p : Point) : State :=
  { loopAt p with payload := (List.range 128).map fun k => (k, 0x00), crc := 0, id := 1, idc := 0xFE, crcHi := 0, crcLo := 0 }

/-! ### Well-formedness: an ill-formed term for each check -/

theorem test_wf_noise_soh : (Instr.rxNoise 0x01).wf = false := by decide
theorem test_wf_noise_eot : (Instr.rxNoise 0x04).wf = false := by decide
theorem test_wf_can_sink : (Instr.rspCanSink 128).wf = false := by decide
theorem test_wf_short_frame : (WireUnit.frame 1 0xFE [0x41] 0x58 0xE5).wf = false := by decide
theorem test_wf_unit_noise : (WireUnit.noise 0x01).wf = false ∧ (WireUnit.noise 0x04).wf = false := by decide
theorem test_wf_accepts : (Instr.rxNoise 0x02).wf = true ∧ (Instr.rspCanSink 127).wf = true := by decide

/-! ### Decoding: words written out bit by bit from R61, R62, R68, R69 (V3.3, V3.4) -/

theorem test_decode_soh : decode 0 (.byte 0b00000001) = .rxSoh := by decide
theorem test_decode_eot : decode 0 (.byte 0b00000100) = .rxEot := by decide
theorem test_decode_noise_can : decode 0 (.byte 0b00011000) = .rxNoise 0x18 := by decide
theorem test_decode_noise_one_bit_off : decode 0 (.byte 0b10000001) = .rxNoise 0x81 ∧
    decode 0 (.byte 0b00000101) = .rxNoise 0x05 := by decide
theorem test_decode_id : decode 1 (.byte 0b00000100) = .rxId 0x04 := by decide
theorem test_decode_idc : decode 2 (.byte 0b11111110) = .rxIdc 0xFE := by decide
theorem test_decode_data : decode 3 (.byte 0b00000001) = .rxData 0x01 ∧ decode 57 (.byte 0b00000100) = .rxData 0x04 ∧
    decode 130 (.byte 0b00011010) = .rxData 0x1A := by decide
theorem test_decode_crch : decode 131 (.byte 0b00000001) = .rxCrch 0x01 := by decide
theorem test_decode_crcl : decode 132 (.byte 0b00011000) = .rxCrcl 0x18 := by decide
theorem test_decode_err : decode 13 .chanErr = .rxErr := by decide
theorem test_decode_table_words : decodeTableWord 8 0b00000001 = some .rxSoh ∧ decodeTableWord 8 0b00000100 = some .rxEot ∧
    decodeTableWord 8 0b01000011 = some (.rxNoise 0x43) := by decide

/-- R61: `head` is bits 1063:1056 of the frame's word, `id` bits 1055:1048, `idc` bits 1047:1040, and `crc_lo` bits 7:0. -/
theorem test_frame_word_fields : (bytesWord (encodeUnit (.frame 0x02 0xFD (List.replicate 128 0x41) 0x58 0xE5))) / 2 ^ 1040 =
      0x0102FD ∧ (bytesWord (encodeUnit (.frame 0x02 0xFD (List.replicate 128 0x41) 0x58 0xE5))) % 65536 = 0x58E5 := by
  decide +kernel

/-- R61: the frame's 1064-bit word of the table (SOH in its eight high bits, RX.SOH's row) decodes from its `head`. -/
theorem test_frame_word_decodes : decodeTableWord 1064 (0x01 * 2 ^ 1056) = some .rxSoh ∧
    decodeTableWord 1064 (0x01 * 2 ^ 1056 + 0x04) = some .rxSoh ∧ tableBytes 24 0x0102FD = [0x01, 0x02, 0xFD] := by
  decide +kernel

/-- The responses of R72, bit by bit. -/
theorem test_sends : sends .hsTry = some 0b01000011 ∧ sends .rspAckFrame = some 0b00000110 ∧
    sends .rspNakNoise = some 0b00010101 ∧ sends (.rspCanSink 64) = some 0b00011000 ∧ sends .rspSink = none := by decide

/-- R71: the other families take nothing from the receive stream. -/
theorem test_no_encoding : encode .crcClr = [] ∧ encode .valFrame = [] ∧ encode .errInc = [] ∧ encode (.recv {}) = [] ∧
    encode (.failChan .read) = [] := by decide

theorem test_unit_truncated : decodeUnit [0x01, 0x01, 0xFE, 0x41] = .error .truncatedFrame := by rfl
theorem test_unit_none : decodeUnit [] = .error .noByte := by rfl
theorem test_unit_eot : decodeUnit [0x04, 0x01] = .ok (.eot, [0x01]) := by rfl

/-- R76 and V2.29: the frame of a correct sender is 133 bytes (V3.1). -/
theorem test_frame_length : (rawFrame 1 0xFE (List.replicate 128 0x00) 0).length = 133 := by decide +kernel

/-! ### CRC unit -/

/-- V2.17 to V2.19. -/
theorem test_crc_bit : bitstep 0x7FFF = 0xFFFE ∧ bitstep 0x8000 = 0x1021 ∧ bitstep 0xFFFF = 0xEFDF := by decide

/-- V2.12, V2.14, V2.25. -/
theorem test_crc_upd : crcByte 0x0000 0x41 = 0x58E5 ∧ crcByte 0xFFFF 0x00 = 0xE1F0 ∧ crcByte 0xFFFF 0xFF = 0xFF00 := by decide

/-- R83: the check value of "123456789". -/
theorem test_crc_buf : crc16 [0x31, 0x32, 0x33, 0x34, 0x35, 0x36, 0x37, 0x38, 0x39] = 0x31C3 := by decide +kernel

/-- R81's example. -/
theorem test_crc_clr : after (exec .crcClr { inHand 0x01 0 with crc := 0x58E5 }) (·.crc) = some 0x0000 := by decide

/-- R84's example, as the operation. -/
theorem test_crc_upd_exec : after (exec (.crcUpd 0x41) { inHand 0x41 3 with crc := 0 }) (·.crc) = some 0x58E5 := by decide

/-- V2.18, as the operation. -/
theorem test_crc_bit_exec : after (exec (.crcBit 0x8000) (inHand 0x41 130)) (·.out) = some (some (.word 0x1021)) := by decide

/-- R83's example. -/
theorem test_crc_buf_exec : after (exec (.crcBuf [0x41]) (loopAt .evFrame)) (·.out) = some (some (.word 0x58E5)) := by decide

/-! ### Framer: the rows of V3.2, V3.3, V3.5, V3.6, each as a step from the packet loop -/

/-- One answer offered at a position. -/
def offer (pos : Byte) (r : Answer) : State := { loopAt .turn with pos := pos, rx := [r], crc := 0 }

theorem test_rx_soh : after (step (offer 0 (.byte 0x01))) (fun t => (t.head, t.crc, t.pos, t.ctl)) =
    some (0x01, 0x0000, 1, .turn) := by decide
theorem test_rx_eot : after (step (offer 0 (.byte 0x04))) (fun t => (t.head, t.pos, t.ctl)) = some (0x04, 0, .evEot) := by decide
theorem test_rx_noise : after (step (offer 0 (.byte 0x18))) (fun t => (t.head, t.pos, t.ctl)) = some (0x18, 0, .evNoise) := by
  decide
theorem test_rx_id : after (step (offer 1 (.byte 0x04))) (fun t => (t.id, t.pos, t.ctl)) = some (0x04, 2, .turn) := by decide
theorem test_rx_idc : after (step (offer 2 (.byte 0xFE))) (fun t => (t.idc, t.pos)) = some (0xFE, 3) := by decide
theorem test_rx_data_first : after (step (offer 3 (.byte 0x41))) (fun t => (t.payload.read 0, t.crc, t.pos)) =
    some (some 0x41, 0x58E5, 4) := by decide
theorem test_rx_data_last : after (step (offer 130 (.byte 0x1A))) (fun t => (t.payload.read 127, t.payload.read 126, t.pos)) =
    some (some 0x1A, none, 131) := by decide
theorem test_rx_crch : after (step (offer 131 (.byte 0x01))) (fun t => (t.crcHi, t.crc, t.pos)) = some (0x01, 0, 132) := by decide
theorem test_rx_crcl : after (step (offer 132 (.byte 0x18))) (fun t => (t.crcLo, t.pos, t.ctl)) = some (0x18, 0, .evFrame) := by
  decide
theorem test_rx_err : after (step (offer 13 .chanErr)) (fun t => (t.cstate, t.pos, t.tx)) =
    some (.failed .channelFailure, 13, []) := by decide

/-! ### Validator (V4.1 to V4.4) -/

theorem test_val_seq : after (exec .valSeq (frame1A .evFrame 0x00 0x00 0xFF 0xF8B0)) (·.out) = some (some (.seqOk true)) ∧
    after (exec .valSeq (frame1A .evFrame 0x01 0x00 0xFF 0xF8B0)) (·.out) = some (some (.seqOk false)) := by decide
theorem test_val_cmp : after (exec .valCmp (frame1A .evFrame 0x80 0x80 0x7F 0xF8B0)) (·.out) = some (some (.cmpOk true)) ∧
    after (exec .valCmp (frame1A .evFrame 0xFF 0xFF 0xFF 0xF8B0)) (·.out) = some (some (.cmpOk false)) := by decide
theorem test_val_crc : after (exec .valCrc (frame1A .evFrame 1 1 0xFE 0xF8B0)) (·.out) = some (some (.crcOk true)) ∧
    after (exec .valCrc (frame1A .evFrame 1 1 0xFE 0xB0F8)) (·.out) = some (some (.crcOk false)) := by decide

/-- Row 1 of V4.1. -/
theorem test_val_frame_valid : after (exec .valFrame (frame1A .evFrame 1 1 0xFE 0xF8B0)) (fun t => (t.ctl, t.out)) =
    some (.valid, some (.valid (List.replicate 128 0x1A))) := by decide +kernel

/-- Row 8 of V4.1: all three causes. -/
theorem test_val_frame_invalid : after (exec .valFrame (frame1A .evFrame 1 2 0xFE 0xF8B1)) (fun t => (t.ctl, t.trace)) =
    some (.invalid, [.raised (.invalidFrame ⟨true, true, true⟩)]) := by decide

theorem test_seq_init : after (exec .seqInit { State.reset with expectedId := 0x7F }) (·.expectedId) = some 0x01 := by decide
theorem test_seq_adv_wraps : after (exec .seqAdv { loopAt (.sunk 128) with expectedId := 0xFF }) (·.expectedId) = some 0x00 := by
  decide
theorem test_err_inc : after (exec .errInc { loopAt .evNoise with errCount := 99 }) (·.errCount) = some 100 := by decide
theorem test_err_clr : after (exec .errClr { loopAt (.sunk 128) with errCount := 37 }) (·.errCount) = some 0 := by decide
theorem test_err_chk : after (exec .errChk { loopAt (.counted .noise) with errCount := 100 }) (·.out) =
    some (some (.overCeiling false)) ∧
    after (exec .errChk { loopAt (.counted .noise) with errCount := 101 }) (·.out) = some (some (.overCeiling true)) := by decide

/-! ### Controller (43_receive_controller.md's examples, V5.x) -/

/-- The start of every program of 95_test_vectors.md: what RECV makes at entry. -/
theorem test_recv : after (step (State.reset.invoke {})) (fun t => (t.expectedId, t.errCount, t.retryCount, t.pos, t.cstate)) =
    some (0x01, 0, 0, 0, .negotiating) := by decide

/-- R121's example. -/
theorem test_hs_try : after (step (handshake 0)) (fun t => (t.tx, t.retryCount, t.cstate, t.delays)) =
    some ([0x43], 1, .receiving, 0) := by decide

/-- V5.5: the first `'C'` cannot be written; no poll was made. -/
theorem test_hs_try_write_fails : after (step { handshake 0 with writes := [false] })
    (fun t => (t.tx, t.retryCount, t.cstate, t.delays)) = some ([], 1, .failed .channelFailure, 0) := by decide

/-- V5.3's end. -/
theorem test_hs_fail : after (step { handshake 3 with cfg := { handshakeRetries := 3 } }) (fun t => (t.cstate, t.tx)) =
    some (.failed .handshakeTimeout, []) := by decide

/-- V5.1's end. -/
theorem test_rsp_ack_eot : after (step (loopAt .evEot)) (fun t => (t.cstate, t.tx, t.expectedId)) =
    some (.done, [0x06], 0x01) := by decide
theorem test_rsp_nak_noise : after (step { loopAt (.checked .noise false) with errCount := 5 }) (fun t => (t.tx, t.cstate, t.errCount)) =
    some ([0x15], .receiving, 5) := by decide

/-- V5.6's end. -/
theorem test_rsp_can_noise : after (step { loopAt (.checked .noise true) with errCount := 1 }) (fun t => (t.tx, t.cstate)) =
    some ([0x18], .failed .tooManyErrors) := by decide

/-- R129's example. -/
theorem test_rsp_sink : after (step (frame1A .valid 1 1 0xFE 0xF8B0)) (fun t => (t.sinkw, t.ctl, t.tx)) =
    some ([List.replicate 128 0x1A], .sunk 128, []) := by decide +kernel

/-- R130's example. -/
theorem test_rsp_ack_frame : after (step { loopAt (.sunk 128) with errCount := 2 }) (fun t => (t.expectedId, t.errCount, t.tx)) =
    some (0x02, 0, [0x06]) := by decide

/-- R131's example. -/
theorem test_rsp_can_sink : after (step { loopAt (.sunk 64) with errCount := 2 })
    (fun t => (t.expectedId, t.errCount, t.tx, t.cstate)) = some (0x01, 2, [0x18], .failed .sinkWriteFailure) := by decide

/-- R132. -/
theorem test_rsp_nak_frame : after (step { loopAt .invalid with errCount := 2 }) (fun t => (t.tx, t.errCount, t.cstate, t.sinkw)) =
    some ([0x15], 2, .receiving, []) := by decide

/-- R133. -/
theorem test_fail_chan : after (exec (.failChan .write) { handshake 1 with ctl := .writeFailed }) (fun t => (t.cstate, t.tx)) =
    some (.failed .channelFailure, []) := by decide

/-- R71, D23: outside its trigger an operation is refused. -/
theorem test_outside_trigger : exec .seqAdv (loopAt .turn) = .refused (.outsideTrigger "SEQ.ADV") := by rfl

/-- R39: a payload byte nothing has written has no value, and handing the buffer on without it faults. -/
theorem test_unwritten_payload : exec .rspSink { frame00 .valid with payload := [] } = .fault .unwrittenPayload := by rfl

/-- R137: after the list, repeated answers begin again, and the supply stays. -/
theorem test_supply_repeats : after (step { loopAt .turn with supply := .repeats (.byte 0x18) [.byte 0x55] })
    (fun t => (t.head, t.ctl, t.rx, t.supply)) =
      some (0x18, .evNoise, [.byte 0x55], .repeats (.byte 0x18) [.byte 0x55]) := by decide

/-- A table word placed where step fetches is the very next operation. -/
theorem test_with_fetch_word : after (step (State.reset.withFetchWord 8 0x01)) (fun t => (t.head, t.pos)) = some (0x01, 1) := by
  decide

/-- The frame's word of R61 placed where step fetches: RX.SOH runs, and the next byte on the stream is `id`. -/
theorem test_with_fetch_word_frame :
    after (step (State.reset.withFetchWord 1064 (0x0102 * 2 ^ 1048))) (fun t => (t.head, t.pos, t.rx.head?)) =
      some (0x01, 1, some (.byte 0x02)) := by decide +kernel

/-! ### Witnesses: each obligation's hypotheses, met together -/

theorem witness_CrcClrClearsRegister : (inHand 0x01 0).stands (.answered (.byte 0x01)) ∧ (inHand 0x01 0).pos = 0 := by decide

/-- Both ends of RX.DATA's range. -/
theorem witness_CrcBitAndCrcUpd : ∀ pos ∈ [(3 : Byte), 130],
    (inHand 0x41 pos).stands (.answered (.byte 0x41)) ∧ 3 ≤ (inHand 0x41 pos).pos ∧ (inHand 0x41 pos).pos ≤ 130 := by decide
theorem witness_CrcBufFoldsFromZero : (loopAt .evFrame).stands .evFrame := by decide
theorem witness_CrcClrAndBufOtherTriggers : (loopAt .evFrame).stands .evFrame := by decide

/-- R88 and R89: two different pairs of appended bytes, and a buffer with its own CRC bytes. -/
theorem witness_CrcZeroResidue : crc16 ([0x41] ++ [0x58, 0xE5]) = crc16 ([0x41] ++ [0x58, 0xE5]) ∧
    word 0x58 0xE5 = crc16 [0x41] := by decide +kernel
theorem witness_SingleBitErrorsAreCaught : [(0x41 : Byte)].length = [(0x80 : Byte)].length ∧ word 0x58 0xE5 = crc16 [0x41] ∧
    0 < [(0x41 : Byte)].length ∧ 7 < 8 := by decide
theorem witness_HeadByteAndPositionSelect : (0x02 : Byte) ≠ 0x01 ∧ (0x02 : Byte) ≠ 0x04 ∧ (3 : Byte) ≤ 3 ∧ (3 : Byte) ≤ 130 ∧
    (3 : Byte) ≤ 130 ∧ (130 : Byte) ≤ 130 := by decide
theorem witness_DecodeIsTotalAndWellFormed : (132 : Byte).toNat ≤ 132 ∧ Answer.byte 0x04 = .byte 0x04 := by decide

/-- One operation for each row of R68 and R69, at both ends of the payload's positions. -/
theorem witness_OperationDecodesFromItsByte :
    ∀ x ∈ [(Instr.rxSoh, (0 : Byte)), (.rxEot, 0), (.rxNoise 0xFF, 0), (.rxId 0x04, 1), (.rxIdc 0x01, 2), (.rxData 0x04, 3),
      (.rxData 0x04, 130), (.rxCrch 0x04, 131), (.rxCrcl 0x04, 132)], x.1.wf = true ∧ encodesAt x.2 x.1 = true := by decide
theorem witness_UnitDecodesFromItsBytes : (WireUnit.frame 1 0xFE (List.replicate 128 0x1A) 0xF8 0xB0).wf = true ∧
    WireUnit.eot.wf = true ∧ (WireUnit.noise 0x02).wf = true := by decide +kernel
theorem witness_DecodedUnitReencodes :
    decodeUnit ([0x01, 0x01, 0xFE] ++ List.replicate 128 0x1A ++ [0xF8, 0xB0, 0x04]) =
      .ok (.frame 0x01 0xFE (List.replicate 128 0x1A) 0xF8 0xB0, [0x04]) ∧
    decodeUnit [0x04] = .ok (.eot, []) ∧ decodeUnit [0x02, 0x01] = .ok (.noise 0x02, [0x01]) := ⟨rfl, rfl, rfl⟩
theorem witness_RxAtTheHeadPosition : ∀ b ∈ [(0x01 : Byte), 0x04, 0x02],
    (inHand b 0).stands (.answered (.byte b)) ∧ (inHand b 0).pos = 0 := by decide
theorem witness_RxHeaderAndCrcBytesAreStored : ∀ pos ∈ [(1 : Byte), 2, 131, 132],
    (inHand 0x04 pos).stands (.answered (.byte 0x04)) ∧ (inHand 0x04 pos).pos = pos := by decide
theorem witness_RxDataStoresAndFolds : ∀ pos ∈ [(3 : Byte), 130], (inHand 0x1A pos).stands (.answered (.byte 0x1A)) ∧
    3 ≤ (inHand 0x1A pos).pos ∧ (inHand 0x1A pos).pos ≤ 130 := by decide
theorem witness_RxErrRaisesChannelFailure : (loopAt (.answered .chanErr)).stands (.answered .chanErr) := by decide

/-- A frame that has begun, and the last position, with a byte and with the channel error. -/
theorem witness_PosFollowsTransitionTable : ∀ pos ∈ [(0 : Byte), 1, 130, 131, 132], ∀ r ∈ [Answer.byte 0x01, .byte 0x04, .chanErr],
    (offer pos r).stands .turn ∧ (offer pos r).nextAnswer = some (r, [], .blocks) ∧ (offer pos r).pos.toNat ≤ 132 := by decide

/-- A step of a run that takes no answer. -/
theorem witness_PosFollowsTransitionTable_noRead : ∃ t, (loopAt .evNoise).CtlInv ∧ (loopAt .evNoise).running ∧
    step (loopAt .evNoise) = .next t ∧ t.reads = (loopAt .evNoise).reads :=
  ⟨_, ⟨rfl, fun h => absurd rfl h, fun _ => rfl⟩, .inr rfl, rfl, rfl⟩

/-- Every operation of the framer has a next state somewhere. -/
theorem witness_FramerFrame : (∃ t, exec .rxSoh (inHand 0x01 0) = .next t) ∧ (∃ t, exec .rxEot (inHand 0x04 0) = .next t) ∧
    (∃ t, exec (.rxNoise 2) (inHand 2 0) = .next t) ∧ (∃ t, exec (.rxId 2) (inHand 2 1) = .next t) ∧
    (∃ t, exec (.rxIdc 2) (inHand 2 2) = .next t) ∧ (∃ t, exec (.rxData 2) (inHand 2 3) = .next t) ∧
    (∃ t, exec (.rxData 2) (inHand 2 130) = .next t) ∧ (∃ t, exec (.rxCrch 2) (inHand 2 131) = .next t) ∧
    (∃ t, exec (.rxCrcl 2) (inHand 2 132) = .next t) ∧ (∃ t, exec .rxErr (loopAt (.answered .chanErr)) = .next t) :=
  ⟨⟨_, rfl⟩, ⟨_, rfl⟩, ⟨_, rfl⟩, ⟨_, rfl⟩, ⟨_, rfl⟩, ⟨_, rfl⟩, ⟨_, rfl⟩, ⟨_, rfl⟩, ⟨_, rfl⟩, ⟨_, rfl⟩⟩

/-- A block that hunts, with the bytes of a frame on the receive stream. -/
def offered (bytes : List Byte) : State := { loopAt .turn with rx := bytes.map .byte ++ [] }

theorem offered_hunting (bytes : List Byte) : (offered bytes).hunting := ⟨rfl, rfl, rfl⟩

theorem witness_FrameIsAssembledIn133Steps :
    (offered (encodeUnit (.frame 7 7 (List.replicate 128 0x04) 0 1))).hunting ∧ (List.replicate 128 (0x04 : Byte)).length = 128 ∧
    (offered (encodeUnit (.frame 7 7 (List.replicate 128 0x04) 0 1))).rx =
      (encodeUnit (.frame 7 7 (List.replicate 128 0x04) 0 1)).map .byte ++ [] :=
  ⟨offered_hunting _, by decide +kernel, rfl⟩
theorem witness_ValSeqAndValCmpYieldTheirTests : (frame00 .evFrame).stands .evFrame := by decide

/-- The buffer of `frame00` holds 128 zero bytes. -/
theorem frame00_block (p : Point) : (frame00 p).block = some (List.replicate 128 0) := by
  show State.block { State.reset with payload := (List.range 128).map fun k => (k, 0x00) } = _
  decide +kernel

/-- V2.22: zero into zero, for any number of bytes. -/
theorem crcFrom_zeros (n : Nat) : crcFrom 0 (List.replicate n 0) = 0 := by
  induction n with
  | zero => rfl
  | succ n ih => exact (congrArg (crcFrom · _) (by decide : crcByte 0 0 = 0)).trans ih

/-- V2.29. -/
theorem crc_zeros : crc16 (List.replicate 128 0) = 0 := crcFrom_zeros 128

/-- It passes the three tests. -/
theorem frame00_valid (p : Point) : (frame00 p).frameValid = true := by
  rw [State.frameValid_eq]
  exact decide_eq_true ⟨rfl, rfl, (by decide : (0 : Word) = word 0 0)⟩

/-- A completed, good frame on its way to acceptance is in the invariant, at each point of that way. -/
theorem frame00_inv (p : Point) (n : Nat) (before : List Event)
    (hp : p = .evFrame ∨ p = .valid ∨ p = .invalid ∨ p = .sunk n) :
    ({ frame00 p with trace := .sink (List.replicate 128 0) n :: before } : State).Inv := by
  have hc : p.settled = true ∧ p ≠ .turn := by rcases hp with rfl | rfl | rfl | rfl <;> exact ⟨rfl, by simp⟩
  refine ⟨?_, ⟨hc.1, fun h => absurd rfl h, fun _ => rfl⟩, Nat.zero_le _, ?_, Nat.zero_le _, ?_, fun _ => frame00_valid p, ?_⟩
  · show Memory.wf ((List.range 128).map fun k => (k, 0x00))
    decide +kernel
  · rcases hp with rfl | rfl | rfl | rfl <;> exact .inl (Nat.zero_le _)
  · intro k hk
    have : k = 128 := by rcases hp with rfl | rfl | rfl | rfl <;> exact (Option.some.inj hk).symm
    subst this
    exact ⟨_, frame00_block p, crc_zeros.symm⟩
  · intro m hm
    rcases hp with rfl | rfl | rfl | rfl <;> cases hm
    exact ⟨frame00_valid (.sunk n), _, frame00_block (.sunk n), rfl⟩

theorem witness_ValCrcComparesTransmittedCrc : ∃ s : State, s.Inv ∧ s.stands .evFrame :=
  ⟨_, frame00_inv .evFrame 0 [] (.inl rfl), rfl, rfl⟩

/-- A good and a bad frame, and a point that is not `EvFrame`. -/
theorem witness_ValFrameJudgesTheFrame : (frame00 .evFrame).stands .evFrame ∧
    (frame00 .evFrame).block = some (List.replicate 128 0) ∧ ({ frame00 .evFrame with id := 2 } : State).stands .evFrame ∧
    ({ frame00 .evFrame with id := 2 } : State).block = some (List.replicate 128 0) ∧ ¬ (loopAt .valid).stands .evFrame :=
  ⟨by decide, frame00_block _, by decide, frame00_block .evFrame, by decide⟩
theorem witness_SequenceRegisterOperations : State.reset.cstate = .idle ∧ (loopAt (.sunk 128)).stands (.sunk 128) ∧
    (loopAt .turn).cstate ≠ .idle ∧ ¬ (loopAt (.sunk 127)).stands (.sunk 128) := by decide
theorem witness_ErrorCounterOperations : (loopAt .evNoise).stands .evNoise ∧ (loopAt .turn).cfg.countInvalidFrames = false ∧
    ¬ (loopAt .turn).stands .evNoise ∧ (loopAt (.sunk 128)).stands (.sunk 128) ∧ State.reset.cstate = .idle ∧
    ¬ (loopAt .turn).stands (.sunk 128) ∧ (loopAt .turn).cstate ≠ .idle ∧
    (∀ w ∈ [Counted.noise, .badFrame], (loopAt (.counted w)).stands (.counted w)) ∧
    (∀ w, ¬ (loopAt .evNoise).stands (.counted w)) :=
  ⟨by decide, rfl, by decide, by decide, rfl, by decide, by decide, by decide, fun _ h => by cases h.2⟩
theorem witness_ValidatorFrame : (∃ t, exec .valSeq (loopAt .evFrame) = .next t) ∧
    (∃ t, exec .valCmp (loopAt .evFrame) = .next t) ∧ (∃ t, exec .valCrc (loopAt .evFrame) = .next t) ∧
    (∃ t, exec .valFrame { loopAt .evFrame with id := 2 } = .next t) ∧ (∃ t, exec .seqInit State.reset = .next t) ∧
    (∃ t, exec .seqAdv (loopAt (.sunk 128)) = .next t) ∧ (∃ t, exec .errInc (loopAt .evNoise) = .next t) ∧
    (∃ t, exec .errClr State.reset = .next t) ∧ (∃ t, exec .errChk (loopAt (.counted .noise)) = .next t) :=
  ⟨⟨_, rfl⟩, ⟨_, rfl⟩, ⟨_, rfl⟩, ⟨_, rfl⟩, ⟨_, rfl⟩, ⟨_, rfl⟩, ⟨_, rfl⟩, ⟨_, rfl⟩, ⟨_, rfl⟩⟩

/-- Two states of different sessions with one environment. -/
theorem witness_RecvTakesNothingFromEarlierRuns : ∃ s s' : State, s ≠ s' ∧ s.rx = s'.rx ∧ s.supply = s'.supply ∧
    s.avail = s'.avail ∧ s.writes = s'.writes ∧ s.sinks = s'.sinks ∧ s.calls = s'.calls ∧ s.trace = s'.trace ∧ s.draws = s'.draws ∧
    ∃ t, exec (.recv {}) s = .next t :=
  ⟨State.reset, { loopAt .turn with expectedId := 9 }, by decide, rfl, rfl, rfl, rfl, rfl, rfl, rfl, rfl, _, rfl⟩

/-- The first and the last attempt, and the end of the handshake. -/
theorem witness_HandshakeOperations : (∀ n ∈ [0, 24], (handshake n).cstate = .negotiating ∧ (handshake n).ctl = .turn ∧
    (handshake n).retryCount < (handshake n).cfg.handshakeRetries) ∧ (handshake 25).cstate = .negotiating ∧
    (handshake 25).ctl = .turn ∧ (handshake 25).retryCount = (handshake 25).cfg.handshakeRetries := by decide
theorem witness_AckEotFinishes : (loopAt .evEot).stands .evEot := by decide
theorem witness_NoiseIsAnswered : ∀ o ∈ [false, true], (loopAt (.checked .noise o)).stands (.checked .noise o) := by decide
theorem witness_SinkGetsThePayload : (frame00 .valid).stands .valid ∧ (frame00 .valid).block = some (List.replicate 128 0) :=
  ⟨by decide, frame00_block _⟩
theorem witness_AcceptedOrSinkFailed : ∀ n ∈ [0, 127, 128, 129], (loopAt (.sunk n)).stands (.sunk n) := by decide
theorem witness_NakFrameGoesOn : (loopAt .invalid).stands .invalid ∧ (loopAt .invalid).cfg.countInvalidFrames = false := by decide
theorem witness_FailChanEndsTheRun : (handshake 1).cstate = .negotiating ∧
    ({ handshake 1 with ctl := .writeFailed } : State).ctl = .writeFailed ∧
    (loopAt (.answered .chanErr)).stands (.answered .chanErr) ∧ (loopAt .writeFailed).stands .writeFailed := by decide

/-- A configuration that counts refused frames. -/
def counting (p : Point) : State := { loopAt p with cfg := { countInvalidFrames := true } }

theorem witness_CountInvalidFramesSwitch : (counting .invalid).stands .invalid ∧
    (counting .invalid).cfg.countInvalidFrames = true ∧
    (∀ o ∈ [false, true], (counting (.checked .badFrame o)).stands (.checked .badFrame o)) := by decide

/-- The invariant of a state whose buffer is empty and whose control owes nothing but a response. -/
theorem simple_inv (s : State) (hm : s.payload = []) (hp : s.pos = 0) (hset : s.ctl.settled = true)
    (hrec : s.cstate ≠ .receiving → s.ctl = .turn) (he : s.ErrInv) (hr : s.RetryInv)
    (hc : s.ctl ≠ .evFrame ∧ s.ctl ≠ .valid ∧ s.ctl ≠ .invalid ∧ ∀ n, s.ctl ≠ .sunk n) : s.Inv := by
  refine ⟨by rw [hm]; decide, ⟨hset, hrec, fun _ => hp⟩, by simp [State.PosInv, hp], he, hr, ?_,
    fun h => absurd h hc.2.1, fun n h => absurd h (hc.2.2.2 n)⟩
  intro k hk
  unfold State.framed at hk
  rw [if_neg (by simp [hp])] at hk
  split at hk <;> simp_all

/-- A failing channel, in the handshake and in the packet loop. -/
theorem witness_FailedWriteEndsTheRun :
    (∃ s : State, s.Inv ∧ s.fetch = some (.hsTry, s) ∧ sends .hsTry = some 0x43 ∧ s.writes.head? = some false) ∧
    ∃ s : State, s.Inv ∧ s.fetch = some (.rspAckEot, s) ∧ sends .rspAckEot = some 0x06 ∧ s.writes.head? = some false :=
  ⟨⟨{ handshake 0 with writes := [false] },
      simple_inv _ rfl rfl rfl (fun _ => rfl) (.inl (Nat.zero_le _)) (Nat.le_of_ble_eq_true rfl) (by simp [handshake, State.reset]), rfl, rfl, rfl⟩,
    ⟨{ loopAt .evEot with writes := [false] },
      simple_inv _ rfl rfl rfl (fun h => absurd rfl h) (.inl (Nat.zero_le _)) (Nat.le_of_ble_eq_true rfl) (by simp [loopAt]), rfl, rfl, rfl⟩⟩
theorem witness_ControllerFrame : (∃ t, exec .hsTry (handshake 0) = .next t) ∧ (∃ t, exec .hsFail (handshake 25) = .next t) ∧
    (∃ t, exec .rspAckEot (loopAt .evEot) = .next t) ∧ (∃ t, exec .rspNakNoise (loopAt (.checked .noise false)) = .next t) ∧
    (∃ t, exec .rspCanNoise (loopAt (.checked .noise true)) = .next t) ∧
    (∃ t, exec .rspAckFrame (loopAt (.sunk 128)) = .next t) ∧ (∃ t, exec (.rspCanSink 64) (loopAt (.sunk 64)) = .next t) ∧
    (∃ t, exec .rspNakFrame (loopAt .invalid) = .next t) ∧
    (∃ t, exec (.failChan .read) (loopAt (.answered .chanErr)) = .next t) :=
  ⟨⟨_, rfl⟩, ⟨_, rfl⟩, ⟨_, rfl⟩, ⟨_, rfl⟩, ⟨_, rfl⟩, ⟨_, rfl⟩, ⟨_, rfl⟩, ⟨_, rfl⟩, ⟨_, rfl⟩⟩
theorem witness_ControllerFrame_sink : after (exec .rspSink (frame1A .valid 1 1 0xFE 0xF8B0)) (·.ctl) = some (.sunk 128) := by
  decide +kernel
/-- The packet loop with an empty list, and a supply after it. -/
def endless (sup : Supply) : State := { loopAt .turn with supply := sup }

/-- An answer of the list; and after the list, repeated answers, free ones, and none. -/
theorem witness_StepRunsTheDecodedOperation : (offer 57 (.byte 0x04)).stands .turn ∧
    (offer 57 (.byte 0x04)).nextAnswer = some (.byte 0x04, [], .blocks) ∧ (offer 57 (.byte 0x04)).rx = .byte 0x04 :: [] ∧
    (∀ sup ∈ [Supply.blocks, .repeats (.byte 0x01) [.chanErr], .free 0],
      (endless sup).rx = [] ∧ (endless sup).supply = sup ∧ (endless sup).stands .turn) ∧
    (endless (.free 0)).nextAnswer = some (Answer.free 0, [], .free 1) :=
  ⟨by decide, by decide, rfl, by decide, rfl⟩

/-- Each clause's point; the handshake, a failed write in it; a waiting call before the first run and after one. -/
theorem witness_StepRunsTheDueOperation :
    (∀ p ∈ [Point.evEot, .evNoise, .counted .noise, .counted .badFrame, .checked .noise true, .checked .noise false,
      .checked .badFrame true, .checked .badFrame false, .evFrame, .valid, .sunk 128, .sunk 0, .sunk 129, .invalid,
      .answered .chanErr, .answered (.byte 0x04), .writeFailed], (loopAt p).stands p) ∧
    (loopAt .invalid).cfg.countInvalidFrames = false ∧ (counting .invalid).stands .invalid ∧
    (counting .invalid).cfg.countInvalidFrames = true ∧
    (∀ n ∈ [3, 25], (handshake n).cstate = .negotiating ∧ (handshake n).ctl ≠ .writeFailed) ∧
    ({ handshake 3 with ctl := .writeFailed } : State).cstate = .negotiating ∧
    (State.reset.invoke {}).cstate = .idle ∧ (State.reset.invoke {}).calls = {} :: [] ∧
    ({ State.reset with cstate := .done, calls := [{}] } : State).terminal = true := by decide
theorem witness_BlockMakesNoMove : (loopAt .turn).stuck ∧ State.reset.cstate = .idle ∧ State.reset.calls = [] :=
  ⟨⟨rfl, rfl, rfl, rfl⟩, rfl, rfl⟩
theorem witness_TerminalStatesAbsorb : ({ State.reset with cstate := .done } : State).terminal = true ∧
    ({ State.reset with cstate := .failed .tooManyErrors } : State).terminal = true ∧ (∀ cfg, Instr.rspSink ≠ .recv cfg) ∧
    ∀ buf, Instr.rspSink ≠ .crcBuf buf := ⟨rfl, rfl, by simp, by simp⟩

/-- One point before any byte is taken: none of the three triggers is there. For CRC.UPD, each part of its trigger alone
fails: the two positions next to its range, another byte in hand, the channel error in hand, and no byte in hand; and a byte
in hand outside the packet loop. -/
theorem witness_OutsideTriggerIsRefused : ¬ (loopAt .turn).stands (.sunk 128) ∧ ¬ (loopAt .turn).stands .evFrame ∧
    (∀ s ∈ [inHand 0x41 2, inHand 0x41 131, inHand 0x42 3, { loopAt (.answered .chanErr) with pos := 3 },
        { loopAt .turn with pos := 130 }, { inHand 0x41 3 with cstate := .negotiating }],
      ¬ (s.cstate = .receiving ∧ s.ctl = .answered (.byte 0x41) ∧ 3 ≤ s.pos ∧ s.pos ≤ 130)) := by decide

/-- A step for each row of R135 that changes `cstate`, and for the counted refused frame over the ceiling (log entry 9). -/
theorem witness_CStateFollowsTransitionTable :
    after (step (State.reset.invoke {})) (·.cstate) = some .negotiating ∧
    after (step (handshake 0)) (·.cstate) = some .receiving ∧
    after (step (handshake 25)) (·.cstate) = some (.failed .handshakeTimeout) ∧
    after (step (loopAt .evEot)) (·.cstate) = some .done ∧
    after (step (loopAt (.checked .noise true))) (·.cstate) = some (.failed .tooManyErrors) ∧
    after (step (counting (.checked .badFrame true))) (·.cstate) = some (.failed .tooManyErrors) ∧
    after (step (loopAt (.sunk 129))) (·.cstate) = some (.failed .sinkWriteFailure) ∧
    after (step (offer 0 .chanErr)) (·.cstate) = some (.failed .channelFailure) ∧
    after (step { loopAt .evEot with writes := [false] }) (·.cstate) = some (.failed .channelFailure) := by decide
theorem witness_CStateFollowsTransitionTable_ctl : (handshake 0).CtlInv ∧ (loopAt .evEot).CtlInv ∧ (offer 0 .chanErr).CtlInv :=
  ⟨⟨rfl, fun _ => rfl, fun _ => rfl⟩, ⟨rfl, fun h => absurd rfl h, fun _ => rfl⟩, ⟨rfl, fun h => absurd rfl h, fun _ => rfl⟩⟩
theorem witness_OperationsSendOnlyTheirByte : ∃ t, exec .rspAckFrame (loopAt (.sunk 128)) = .next t := ⟨_, rfl⟩
theorem witness_OnlyTheTopOfATurnReads : (∃ t, step (offer 0 (.byte 0x01)) = .next t) ∧ ∃ t, step (loopAt .evNoise) = .next t :=
  ⟨⟨_, rfl⟩, ⟨_, rfl⟩⟩

/-- An acceptance, and a second RECV. -/
theorem witness_ExpectedIdMovesOnlyOnAcceptance :
    (after (step (loopAt (.sunk 128))) (·.expectedId) = some 2 ∧ (loopAt (.sunk 128)).expectedId = 1) ∧
    after (step { State.reset with cstate := .done, expectedId := 9, calls := [({} : Config)] }) (·.expectedId) = some 1 := by decide

/-- The sink took the block, and it did not. -/
theorem witness_NoPartialAcceptance : ∀ n ∈ [128, 64], ∃ s : State, s.Inv ∧ s.stands (.sunk n) :=
  fun n _ => ⟨_, frame00_inv (.sunk n) n [] (.inr (.inr (.inr rfl))), rfl, rfl⟩
theorem witness_ExecKeepsMemoryAndRanges : ∃ t, exec (.rxData 0x1A) (inHand 0x1A 130) = .next t ∧
    (inHand 0x1A 130).payload.wf ∧ (inHand 0x1A 130).pos.toNat ≤ 132 := ⟨_, rfl, by decide, by decide⟩

/-- States of the invariant: reset, the handshake, noise at the ceiling, a completed frame, one the sink has answered. -/
theorem witness_EveryStepKeepsTheInvariant : State.reset.Inv ∧ (handshake 25).Inv ∧
    ({ loopAt (.checked .noise true) with errCount := 101 } : State).Inv ∧ (∃ s : State, s.Inv ∧ s.stands .evFrame) ∧
    (∃ s : State, s.Inv ∧ s.stands (.sunk 64)) ∧ ∃ t, step (handshake 25) = .next t :=
  ⟨simple_inv _ rfl rfl rfl (fun _ => rfl) (.inl (Nat.zero_le _)) (Nat.le_of_ble_eq_true rfl) (by simp [State.reset]),
    simple_inv _ rfl rfl rfl (fun _ => rfl) (.inl (Nat.zero_le _)) (Nat.le_of_ble_eq_true rfl) (by simp [handshake, State.reset]),
    simple_inv _ rfl rfl rfl (fun h => absurd rfl h) ⟨by decide, by decide⟩ (Nat.zero_le _) (by simp [loopAt]),
    ⟨_, frame00_inv .evFrame 0 [] (.inl rfl), rfl, rfl⟩,
    ⟨_, frame00_inv (.sunk 64) 64 [] (.inr (.inr (.inr rfl))), rfl, rfl⟩, ⟨_, rfl⟩⟩
theorem witness_EveryStepIsDefined : (handshake 25).Inv := witness_EveryStepKeepsTheInvariant.2.1
theorem witness_RaiseEndsOrRecords : Raised.cause .handshakeTimeout = some .handshakeTimeout ∧
    Raised.cause (.noiseByte 0x18) = none := by decide

/-- The frame of a correct sender with payload 128*00, offered to a block that expects it. -/
theorem witness_GoodFrameIsAccepted : (offered (goodFrame 1 (List.replicate 128 0))).hunting ∧
    (List.replicate 128 (0 : Byte)).length = 128 ∧
    (offered (goodFrame 1 (List.replicate 128 0))).rx =
      (goodFrame (offered (goodFrame 1 (List.replicate 128 0))).expectedId (List.replicate 128 0)).map .byte ++ [] ∧
    (offered (goodFrame 1 (List.replicate 128 0))).sinks.headD 128 = 128 ∧
    (offered (goodFrame 1 (List.replicate 128 0))).writes.headD true = true :=
  ⟨offered_hunting _, by decide +kernel, rfl, rfl, rfl⟩

/-- A frame that fails each of the three tests alone (V4.1 rows 2, 3 and 6, with the payload of V2.29). -/
theorem witness_BadFrameIsRefused : (∀ bytes, (offered bytes).hunting ∧ (offered bytes).rx = bytes.map .byte ++ [] ∧
      (offered bytes).cfg.countInvalidFrames = false ∧ (offered bytes).writes.headD true = true ∧
      (offered bytes).expectedId = 1) ∧ (List.replicate 128 (0 : Byte)).length = 128 ∧
    ((2 : Byte) ≠ 1 ∧ ((2 : Byte).toNat + (0xFD : Byte).toNat) % 256 = 255) ∧
    ((1 : Byte).toNat + (0xFF : Byte).toNat) % 256 ≠ 255 ∧ crc16 (List.replicate 128 0) ≠ word 0x00 0x01 :=
  ⟨fun _ => ⟨⟨rfl, rfl, rfl⟩, rfl, rfl, rfl, rfl⟩, by decide +kernel, by decide +kernel, by decide +kernel, by rw [crc_zeros]; decide⟩

/-- The same three frames, each offered for ever, with no write scripted. -/
theorem witness_BadFrameIsRefused_forever : ∀ x ∈ [((2 : Byte), (0xFD : Byte), (0x00 : Byte)), (1, 0xFF, 0x00), (1, 0xFE, 0x01)],
    ∃ s : State, s.hunting ∧ s.rx = [] ∧
      s.supply = .repeats (.byte 0x01) (([x.1, x.2.1] ++ List.replicate 128 0 ++ [0x00, x.2.2]).map .byte) ∧
      s.cfg.countInvalidFrames = false ∧ (∀ ok ∈ s.writes, ok = true) ∧ s.expectedId = 1 :=
  fun x _ => ⟨endless (.repeats (.byte 0x01) (([x.1, x.2.1] ++ List.replicate 128 0 ++ [0x00, x.2.2]).map .byte)),
    ⟨rfl, rfl, rfl⟩, rfl, rfl, rfl, fun _ h => absurd h List.not_mem_nil, rfl⟩

/-- Three attempts left, and none; more polls scripted than are made, and writes scripted good, none, or fewer, with a
failure only after them. -/
theorem witness_SilentHandshakeTimesOut : ∀ n ∈ [0, 3], ∀ writes ∈ [[], [true, true], [true, true, true, false].drop (3 - n)],
    ∃ s : State, s.cstate = .negotiating ∧ s.ctl = .turn ∧ s.retryCount + n = s.cfg.handshakeRetries ∧
      s.avail = List.replicate n false ++ [true] ∧ s.writes = writes ∧ ∀ ok ∈ s.writes.take n, ok = true := by
  intro n hn writes hw
  have hn' : n ≤ 3 ∧ ∀ ok ∈ writes.take n, ok = true := by
    revert writes; revert n; decide
  exact ⟨{ handshake (25 - n) with avail := List.replicate n false ++ [true], writes := writes }, rfl, rfl,
    Nat.sub_add_cancel (Nat.le_trans hn'.1 (by decide)), rfl, rfl, hn'.2⟩

/-- Two noise bytes under a ceiling of 2, and a third, with no write scripted and with three good ones before a failure. -/
theorem witness_NoiseOverTheCeilingEndsTheRun : ∀ writes ∈ [[], [true, true, true, false]], ∃ s : State, s.hunting ∧
    s.writes = writes ∧ (∀ ok ∈ s.writes.take ([(0x55 : Byte), 0xAA].length + 1), ok = true) ∧
    s.errCount + [(0x55 : Byte), 0xAA].length = s.cfg.errCeiling ∧ (∀ b ∈ [(0x55 : Byte), 0xAA] ++ [0x18], b ≠ 0x01 ∧ b ≠ 0x04) ∧
    s.rx = ([(0x55 : Byte), 0xAA] ++ [0x18]).map .byte ++ [] := by
  intro writes hw
  have hok : ∀ ok ∈ writes.take 3, ok = true := by revert writes; decide
  exact ⟨{ offered [0x55, 0xAA, 0x18] with cfg := { errCeiling := 2 }, writes := writes }, ⟨rfl, rfl, rfl⟩, rfl, hok, rfl,
    by decide, rfl⟩

end Sys2Proof.Tests
end

section
/-! SUPPORT. Everything one operation can do, said once: an operation that answers a next state is one of the cases of
`ExecCase`, each with the trigger under which it acts and its next state written out. What an operation leaves unchanged
is a case analysis over it. -/

namespace Sys2Proof.Machine

/-- The operations that answer a next state, with their triggers and their next states. -/
inductive ExecCase (s : State) : Instr → State → Prop
  | crcClr (hd : (s.stands (.answered (.byte soh)) ∧ s.pos = 0) ∨ s.stands .evFrame) :
      ExecCase s .crcClr { s with crc := crcInit }
  | crcBit (c : Word) (hd : s.cstate = .receiving ∧ s.ctl.holdsByte = true ∧ 3 ≤ s.pos ∧ s.pos ≤ 130) :
      ExecCase s (.crcBit c) { s with out := some (.word (bitstep c)) }
  | crcBuf (buf : List Byte) : ExecCase s (.crcBuf buf) { s with out := some (.word (crc16 buf)) }
  | crcUpd (b : Byte) (hd : s.stands (.answered (.byte b)) ∧ 3 ≤ s.pos ∧ s.pos ≤ 130) :
      ExecCase s (.crcUpd b) { s with crc := crcByte s.crc b }
  | rxSoh (hd : s.stands (.answered (.byte soh)) ∧ s.pos = 0) :
      ExecCase s .rxSoh { s with head := soh, crc := crcInit, pos := 1, ctl := .turn }
  | rxEot (hd : s.stands (.answered (.byte eot)) ∧ s.pos = 0) :
      ExecCase s .rxEot { s with head := eot, pos := 0, ctl := .evEot }
  | rxNoise (b : Byte) (hd : s.stands (.answered (.byte b)) ∧ s.pos = 0 ∧ b ≠ soh ∧ b ≠ eot) :
      ExecCase s (.rxNoise b)
        { s with head := b, pos := 0, ctl := .evNoise, trace := .raised (.noiseByte b) :: s.trace }
  | rxId (b : Byte) (hd : s.stands (.answered (.byte b)) ∧ s.pos = 1) :
      ExecCase s (.rxId b) { s with id := b, pos := 2, ctl := .turn }
  | rxIdc (b : Byte) (hd : s.stands (.answered (.byte b)) ∧ s.pos = 2) :
      ExecCase s (.rxIdc b) { s with idc := b, pos := 3, ctl := .turn }
  | rxData (b : Byte) (hd : s.stands (.answered (.byte b)) ∧ 3 ≤ s.pos ∧ s.pos ≤ 130) :
      ExecCase s (.rxData b) { s with payload := s.payload.write (payloadIndex s.pos) b, crc := crcByte s.crc b,
                                      pos := s.pos + 1, ctl := .turn }
  | rxCrch (b : Byte) (hd : s.stands (.answered (.byte b)) ∧ s.pos = 131) :
      ExecCase s (.rxCrch b) { s with crcHi := b, pos := 132, ctl := .turn }
  | rxCrcl (b : Byte) (hd : s.stands (.answered (.byte b)) ∧ s.pos = 132) :
      ExecCase s (.rxCrcl b) { s with crcLo := b, pos := 0, ctl := .evFrame }
  | rxErr (hd : s.stands (.answered .chanErr)) :
      ExecCase s .rxErr { s with cstate := .failed .channelFailure, ctl := .turn,
                                 trace := .raised (.channelFailure .read (some s.pos)) :: s.trace }
  | valSeq (hd : s.stands .evFrame) : ExecCase s .valSeq { s with out := some (.seqOk s.seqOk) }
  | valCmp (hd : s.stands .evFrame) : ExecCase s .valCmp { s with out := some (.cmpOk s.cmpOk) }
  | valCrc (hd : s.stands .evFrame) : ExecCase s .valCrc { s with out := some (.crcOk s.crcOk) }
  | valFrameValid (p : List Byte) (hd : s.stands .evFrame) (hv : s.frameValid = true) (hp : s.block = some p) :
      ExecCase s .valFrame { s with ctl := .valid, out := some (.valid p) }
  | valFrameInvalid (hd : s.stands .evFrame) (hv : s.frameValid = false) :
      ExecCase s .valFrame { s with ctl := .invalid, out := some (.invalid s.causeBits),
                                    trace := .raised (.invalidFrame s.causeBits) :: s.trace }
  | seqInit (hd : s.cstate = .idle) : ExecCase s .seqInit { s with expectedId := 1 }
  | seqAdv (hd : s.stands (.sunk blockSize)) : ExecCase s .seqAdv { s with expectedId := s.expectedId + 1 }
  | errInc (what : Counted) (hd : s.toCount = some what) :
      ExecCase s .errInc { s with errCount := s.errCount + 1, ctl := .counted what }
  | errClr (hd : s.stands (.sunk blockSize) ∨ s.cstate = .idle) : ExecCase s .errClr { s with errCount := 0 }
  | errChk (what : Counted) (hd : s.stands (.counted what)) :
      ExecCase s .errChk { s with ctl := .checked what s.overCeiling, out := some (.overCeiling s.overCeiling) }
  | recv (cfg : Config) :
      ExecCase s (.recv cfg) { s.forget with expectedId := 1, errCount := 0, retryCount := 0, pos := 0,
                                             cstate := .negotiating, cfg := cfg, ctl := .turn, out := none }
  | hsTryOpen (hd : s.cstate = .negotiating ∧ s.ctl = .turn ∧ s.retryCount < s.cfg.handshakeRetries)
      (hw : s.writes.headD true = true) (ha : s.avail.headD true = true) :
      ExecCase s .hsTry { s with retryCount := s.retryCount + 1, cstate := .receiving, writes := s.writes.tail,
                                 avail := s.avail.tail, trace := .avail true :: .write crcReq true :: s.trace }
  | hsTryWait (hd : s.cstate = .negotiating ∧ s.ctl = .turn ∧ s.retryCount < s.cfg.handshakeRetries)
      (hw : s.writes.headD true = true) (ha : s.avail.headD true = false) :
      ExecCase s .hsTry { s with retryCount := s.retryCount + 1, writes := s.writes.tail, avail := s.avail.tail,
                                 trace := .delay :: .avail false :: .write crcReq true :: s.trace }
  | hsTryFailed (hd : s.cstate = .negotiating ∧ s.ctl = .turn ∧ s.retryCount < s.cfg.handshakeRetries)
      (hw : s.writes.headD true = false) :
      ExecCase s .hsTry (({ s with retryCount := s.retryCount + 1 } : State).writeFails crcReq)
  | hsFail (hd : s.cstate = .negotiating ∧ s.ctl = .turn ∧ s.retryCount = s.cfg.handshakeRetries) :
      ExecCase s .hsFail { s with cstate := .failed .handshakeTimeout, ctl := .turn,
                                  trace := .raised .handshakeTimeout :: s.trace }
  | ackEot (hd : s.stands .evEot) (hw : s.writes.headD true = true) :
      ExecCase s .rspAckEot { s with cstate := .done, ctl := .turn, writes := s.writes.tail,
                                     trace := .write ack true :: s.trace }
  | ackEotFailed (hd : s.stands .evEot) (hw : s.writes.headD true = false) :
      ExecCase s .rspAckEot (s.writeFails ack)
  | nakNoise (hd : s.stands (.checked .noise false)) (hw : s.writes.headD true = true) :
      ExecCase s .rspNakNoise { s with ctl := .turn, writes := s.writes.tail, trace := .write nak true :: s.trace }
  | nakNoiseFailed (hd : s.stands (.checked .noise false)) (hw : s.writes.headD true = false) :
      ExecCase s .rspNakNoise (s.writeFails nak)
  | canNoise (hd : s.stands (.checked .noise true) ∨ s.stands (.checked .badFrame true))
      (hw : s.writes.headD true = true) :
      ExecCase s .rspCanNoise { s with cstate := .failed .tooManyErrors, ctl := .turn, writes := s.writes.tail,
                                       trace := .raised (.tooManyErrors s.errCount) :: .write can true :: s.trace }
  | canNoiseFailed (hd : s.stands (.checked .noise true) ∨ s.stands (.checked .badFrame true))
      (hw : s.writes.headD true = false) : ExecCase s .rspCanNoise (s.writeFails can)
  | sink (p : List Byte) (hd : s.stands .valid) (hp : s.block = some p) :
      ExecCase s .rspSink { s with ctl := .sunk (s.sinks.headD blockSize),
                                   out := some (.count (s.sinks.headD blockSize)), sinks := s.sinks.tail,
                                   trace := .sink p (s.sinks.headD blockSize) :: s.trace }
  | ackFrame (hd : s.stands (.sunk blockSize)) (hw : s.writes.headD true = true) :
      ExecCase s .rspAckFrame { s with expectedId := s.expectedId + 1, errCount := 0, ctl := .turn,
                                       writes := s.writes.tail, trace := .write ack true :: s.trace }
  | ackFrameFailed (hd : s.stands (.sunk blockSize)) (hw : s.writes.headD true = false) :
      ExecCase s .rspAckFrame
        (({ s with expectedId := s.expectedId + 1, errCount := 0 } : State).writeFails ack)
  | canSink (n : Nat) (hd : s.stands (.sunk n) ∧ n ≠ blockSize) (hw : s.writes.headD true = true) :
      ExecCase s (.rspCanSink n) { s with cstate := .failed .sinkWriteFailure, ctl := .turn, writes := s.writes.tail,
                                          trace := .raised (.sinkWriteFailure n) :: .write can true :: s.trace }
  | canSinkFailed (n : Nat) (hd : s.stands (.sunk n) ∧ n ≠ blockSize) (hw : s.writes.headD true = false) :
      ExecCase s (.rspCanSink n) (s.writeFails can)
  | nakFrame (hd : (s.stands .invalid ∧ s.cfg.countInvalidFrames = false) ∨ s.stands (.checked .badFrame false))
      (hw : s.writes.headD true = true) :
      ExecCase s .rspNakFrame { s with ctl := .turn, writes := s.writes.tail, trace := .write nak true :: s.trace }
  | nakFrameFailed (hd : (s.stands .invalid ∧ s.cfg.countInvalidFrames = false) ∨ s.stands (.checked .badFrame false))
      (hw : s.writes.headD true = false) : ExecCase s .rspNakFrame (s.writeFails nak)
  | failChan (during : During) (hd : s.running ∧ s.ctl = failPoint during) :
      ExecCase s (.failChan during) { s with cstate := .failed .channelFailure, ctl := .turn,
                                             trace := .raised (.channelFailure during none) :: s.trace }

/-- An operation with a trigger and one next state. -/
theorem ExecCase.of_due {s t u : State} {i : Instr} {due : Prop} [Decidable due] {op : String}
    (h : whenDue due op (.next u) = .next t) (hu : due → ExecCase s i u) : ExecCase s i t := by
  obtain ⟨hd, h⟩ := whenDue_next.1 h
  cases h; exact hu hd

/-- An operation with a trigger that sends one byte from the state `u`: either the channel takes it and the operation goes
on, or the run ends. -/
theorem ExecCase.of_due_send {s t u : State} {i : Instr} {b : Byte} {k : State → State} {due : Prop} [Decidable due]
    {op : String} (h : whenDue due op (.next (u.send b k)) = .next t)
    (hok : due → u.writes.headD true = true →
      ExecCase s i (k { u with writes := u.writes.tail, trace := .write b true :: u.trace }))
    (herr : due → u.writes.headD true = false → ExecCase s i (u.writeFails b)) : ExecCase s i t := by
  refine .of_due h fun hd => ?_
  cases hw : u.writes.headD true
  · rw [u.send_err b k hw]; exact herr hd hw
  · rw [u.send_ok b k hw]; exact hok hd hw

/-- RX.DATA stores the byte, and the write is inside the buffer. -/
theorem execRxData_cases {s t : State} {b : Byte} (h : execRxData b s = .next t) : ExecCase s (.rxData b) t := by
  obtain ⟨hd, h⟩ := whenDue_next.1 h
  rw [State.memWrite_ok _ _ _ (payloadIndex_lt hd.2.2)] at h
  cases h; exact .rxData b hd

/-- VAL.FRAME gives one of two verdicts. -/
theorem execValFrame_cases {s t : State} (h : execValFrame s = .next t) : ExecCase s .valFrame t := by
  obtain ⟨hd, h⟩ := whenDue_next.1 h
  cases hv : s.frameValid with
  | false => rw [if_neg (by simp [hv])] at h; cases h; exact .valFrameInvalid hd hv
  | true =>
    rw [if_pos hv] at h
    cases hp : s.block with
    | none => rw [hp] at h; cases h
    | some p => rw [hp] at h; cases h; exact .valFrameValid p hd hv hp

/-- ERR.INC counts what there is to count. -/
theorem execErrInc_cases {s t : State} (h : execErrInc s = .next t) : ExecCase s .errInc t := by
  unfold execErrInc at h
  split at h
  · cases h; exact .errInc _ ‹_›
  · cases h

/-- ERR.CHK compares what has just been counted. -/
theorem execErrChk_cases {s t : State} (h : execErrChk s = .next t) : ExecCase s .errChk t := by
  unfold execErrChk at h
  split at h
  · cases h; exact .errChk _ ((s.justCounted_iff _).1 ‹_›)
  · cases h

/-- HS.TRY sends one `'C'` and, if it was taken, polls once. -/
theorem execHsTry_cases {s t : State} (h : execHsTry s = .next t) : ExecCase s .hsTry t := by
  refine .of_due_send h (fun hd hw => ?_) .hsTryFailed
  cases ha : s.avail.headD true with
  | false => rw [State.poll_false]; exacts [.hsTryWait hd hw ha, ha]
  | true => rw [State.poll_true]; exacts [.hsTryOpen hd hw ha, ha]

/-- RSP.SINK hands a written buffer to the sink. -/
theorem execRspSink_cases {s t : State} (h : execRspSink s = .next t) : ExecCase s .rspSink t := by
  obtain ⟨hd, h⟩ := whenDue_next.1 h
  cases hp : s.block with
  | none => rw [hp] at h; cases h
  | some p => rw [hp] at h; cases h; exact .sink p hd hp

/-- Everything one operation can do. -/
theorem exec_cases {i : Instr} {s t : State} (h : exec i s = .next t) : ExecCase s i t := by
  cases i with
  | crcClr => exact .of_due h .crcClr
  | crcBit c => exact .of_due h (.crcBit c)
  | crcBuf buf => cases h; exact .crcBuf buf
  | crcUpd b => exact .of_due h (.crcUpd b)
  | rxSoh => exact .of_due h .rxSoh
  | rxEot => exact .of_due h .rxEot
  | rxNoise b => exact .of_due h (.rxNoise b)
  | rxId b => exact .of_due h (.rxId b)
  | rxIdc b => exact .of_due h (.rxIdc b)
  | rxData b => exact execRxData_cases h
  | rxCrch b => exact .of_due h (.rxCrch b)
  | rxCrcl b => exact .of_due h (.rxCrcl b)
  | rxErr => exact .of_due h .rxErr
  | valSeq => exact .of_due h .valSeq
  | valCmp => exact .of_due h .valCmp
  | valCrc => exact .of_due h .valCrc
  | valFrame => exact execValFrame_cases h
  | seqInit => exact .of_due h .seqInit
  | seqAdv => exact .of_due h .seqAdv
  | errInc => exact execErrInc_cases h
  | errClr => exact .of_due h .errClr
  | errChk => exact execErrChk_cases h
  | recv cfg => cases h; exact .recv cfg
  | hsTry => exact execHsTry_cases h
  | hsFail => exact .of_due h .hsFail
  | rspAckEot => exact .of_due_send h .ackEot .ackEotFailed
  | rspNakNoise => exact .of_due_send h .nakNoise .nakNoiseFailed
  | rspCanNoise => exact .of_due_send h .canNoise .canNoiseFailed
  | rspSink => exact execRspSink_cases h
  | rspAckFrame => exact .of_due_send h .ackFrame .ackFrameFailed
  | rspCanSink n => exact .of_due_send h (.canSink n) (.canSinkFailed n)
  | rspNakFrame => exact .of_due_send h .nakFrame .nakFrameFailed
  | failChan during => exact .of_due h (.failChan during)

end Sys2Proof.Machine
end

section
/-! The state's own statements (10_state.md): what each family of operations leaves unchanged, the buffer's form and the
range of `pos`, and that under the invariant every step is defined. -/

namespace Sys2Proof.Machine

/-- What can become of the payload buffer in one operation: nothing, the byte RX.DATA stores, or, at RECV, all of it is
forgotten. -/
theorem exec_payload {i : Instr} {s t : State} (h : exec i s = .next t) :
    t.payload = s.payload ∨
    (∃ b, i = .rxData b ∧ s.pos ≤ 130 ∧ t.payload = s.payload.write (payloadIndex s.pos) b) ∨
    ((∃ cfg, i = .recv cfg) ∧ t.payload = []) := by
  cases exec_cases h with
  | rxData b hd => exact .inr (.inl ⟨b, rfl, hd.2.2, rfl⟩)
  | recv cfg => exact .inr (.inr ⟨⟨cfg, rfl⟩, rfl⟩)
  | _ => exact .inl rfl

/-- Every operation keeps the canonical form of the buffer. -/
theorem exec_keeps_payload_wf {i : Instr} {s t : State} (h : exec i s = .next t) (hm : s.payload.wf) :
    t.payload.wf := by
  rcases exec_payload h with hp | ⟨b, -, hpos, hp⟩ | ⟨-, hp⟩ <;> rw [hp]
  · exact hm
  · exact Memory.wf_write hm (payloadIndex_lt hpos)
  · exact Memory.wf_nil

/-- Every operation keeps `pos` in its range: RX.DATA, the only one that counts it up, does so from 130 at most. -/
theorem exec_keeps_pos_range {i : Instr} {s t : State} (h : exec i s = .next t) (hp : s.pos.toNat ≤ 132) :
    t.pos.toNat ≤ 132 := by
  cases exec_cases h with
  | rxSoh | rxEot | rxNoise | rxId | rxIdc | rxCrch | rxCrcl | recv => simp
  | rxData b hd =>
    have hle : s.pos ≤ 130 := hd.2.2
    show (s.pos + 1).toNat ≤ 132
    bv_omega
  | _ => exact hp

/-- Only RECV sets a configuration. -/
theorem exec_keeps_cfg {i : Instr} {s t : State} (h : exec i s = .next t) (hi : ∀ cfg, i ≠ .recv cfg) :
    t.cfg = s.cfg := by
  cases exec_cases h with
  | recv cfg => exact absurd rfl (hi cfg)
  | _ => rfl

/-- Settles O50: the three parts are case analyses over everything an operation can do. -/
theorem execKeepsMemoryAndRanges : Obligations.ExecKeepsMemoryAndRanges :=
  fun _ _ _ h => ⟨exec_keeps_payload_wf h, exec_keeps_pos_range h, exec_keeps_cfg h⟩

/-- Settles O19: of everything an operation can do, the framer's cases. -/
theorem framerFrame : Obligations.FramerFrame := by
  intro i s t hi h
  cases exec_cases h with
  | rxSoh hd | rxEot hd => simp [hd.2]
  | rxNoise b hd => simp [hd.2.1]
  | rxId | rxIdc | rxCrch | rxCrcl | rxErr => simp
  | rxData b hd =>
    have hread : ∀ a : Nat, (∀ c, Instr.rxData b = .rxData c → a ≠ payloadIndex s.pos) →
        (s.payload.write (payloadIndex s.pos) b).read a = s.payload.read a :=
      fun a ha => Memory.read_write_other _ _ _ _ (ha b rfl)
    simpa using hread
  | _ => simp [encodesAt] at hi

/-- Settles O27: of everything an operation can do, the validator's cases. -/
theorem validatorFrame : Obligations.ValidatorFrame := by
  intro i s t hi h
  cases exec_cases h with
  | valSeq | valCmp | valCrc | valFrameValid | valFrameInvalid | seqInit | seqAdv | errInc | errClr | errChk => simp
  | _ => simp at hi

/-- Settles O39: of everything an operation can do, the controller's cases but RECV. -/
theorem controllerFrame : Obligations.ControllerFrame := by
  intro i s t hi h
  cases exec_cases h with
  | hsTryOpen | hsTryWait | hsFail | ackEot | nakNoise | canNoise | sink | ackFrame | canSink | nakFrame | failChan => simp
  | hsTryFailed | ackEotFailed | nakNoiseFailed | canNoiseFailed | ackFrameFailed | canSinkFailed | nakFrameFailed =>
    simp [State.writeFails]
  | _ => simp at hi

/-- Settles O51: the reset state, and reading the empty buffer. -/
theorem resetLeavesTheStatedValues : Obligations.ResetLeavesTheStatedValues :=
  ⟨rfl, rfl, rfl, rfl, rfl, Memory.read_nil⟩

/-! ### Every step is defined -/

/-- With a byte in hand at a payload position RX.DATA stores it. -/
theorem execRxData_defined {s : State} {b : Byte} (hs : s.stands (.answered (.byte b))) (h3 : 3 ≤ s.pos)
    (h130 : s.pos ≤ 130) : ∃ t, execRxData b s = .next t := by
  rw [execRxData, whenDue_pos ⟨hs, h3, h130⟩, State.memWrite_ok _ _ _ (payloadIndex_lt h130)]
  exact ⟨_, rfl⟩

/-- With an answer in hand and `pos` in its range, the operation that is decoded is due, and its payload write is inside
the buffer. -/
theorem exec_decode_defined {s : State} {r : Answer} (hs : s.stands (.answered r)) (hp : s.pos.toNat ≤ 132) :
    ∃ t, exec (decode s.pos r) s = .next t := by
  cases r with
  | chanErr => exact ⟨_, whenDue_pos hs⟩
  | byte b =>
    simp only [decode, decodeByte, decodeHead]
    split_ifs with h0 hsoh heot h1 h2 h130 h131
    · subst hsoh; exact ⟨_, whenDue_pos ⟨hs, h0⟩⟩
    · subst heot; exact ⟨_, whenDue_pos ⟨hs, h0⟩⟩
    · exact ⟨_, whenDue_pos ⟨hs, h0, hsoh, heot⟩⟩
    · exact ⟨_, whenDue_pos ⟨hs, h1⟩⟩
    · exact ⟨_, whenDue_pos ⟨hs, h2⟩⟩
    · have h3 : 3 ≤ s.pos := by bv_omega
      exact execRxData_defined hs h3 h130
    · exact ⟨_, whenDue_pos ⟨hs, h131⟩⟩
    · have h132 : s.pos = 132 := by bv_omega
      exact ⟨_, whenDue_pos ⟨hs, h132⟩⟩

/-- A completed frame that is not yet answered has all 128 bytes of its payload in the buffer. -/
theorem State.Inv.block_isSome {s : State} (hi : s.Inv) (hc : s.ctl = .evFrame ∨ s.ctl = .valid) :
    ∃ p, s.block = some p := by
  have hpos : s.pos = 0 := hi.ctl.2.2 (by rcases hc with hc | hc <;> simp [hc])
  have hframed : s.framed = some blockSize := by
    rcases hc with hc | hc <;> simp [State.framed, hpos, hc]
  obtain ⟨p, hp, -⟩ := hi.frame blockSize hframed
  exact ⟨p, hp⟩

/-- VAL.FRAME gives a verdict on a completed frame whose bytes are written. -/
theorem execValFrame_defined {s : State} {p : List Byte} (hs : s.stands .evFrame) (hp : s.block = some p) :
    ∃ t, execValFrame s = .next t := by
  rw [execValFrame, whenDue_pos hs, hp]
  split <;> exact ⟨_, rfl⟩

/-- RSP.SINK hands a written buffer on. -/
theorem execRspSink_defined {s : State} {p : List Byte} (hs : s.stands .valid) (hp : s.block = some p) :
    ∃ t, execRspSink s = .next t := by
  rw [execRspSink, whenDue_pos hs, hp]
  exact ⟨_, rfl⟩

/-- Where there is something to count, ERR.INC counts it. -/
theorem execErrInc_defined {s : State} {what : Counted} (h : s.toCount = some what) : ∃ t, execErrInc s = .next t := by
  rw [execErrInc, h]
  exact ⟨_, rfl⟩

/-- After an increment ERR.CHK compares. -/
theorem execErrChk_defined {s : State} {what : Counted} (hs : s.stands (.counted what)) :
    ∃ t, execErrChk s = .next t := by
  rw [execErrChk, (s.justCounted_iff what).2 hs]
  exact ⟨_, rfl⟩

/-- Outside a run a step is RECV, which acts in every state, or no move. -/
theorem step_outside_defined {s : State} (ho : s.outside) : ∃ t, step s = .next t := by
  cases hq : s.calls with
  | nil => exact ⟨s, by rw [step, s.fetch_outside ho, hq]⟩
  | cons cfg rest => exact ⟨_, step_outside s cfg rest ho hq⟩

/-- In the handshake an attempt is due until the bound is reached, and then HS.FAIL. -/
theorem step_negotiating_defined {s : State} (hi : s.Inv) (hc : s.cstate = .negotiating) : ∃ t, step s = .next t := by
  have hturn : s.ctl = .turn := hi.ctl.2.1 (by simp [hc])
  rw [step_negotiating s hc, State.dueHandshake, if_neg (by simp [hturn])]
  split
  · exact ⟨_, whenDue_pos ⟨hc, hturn, ‹_›⟩⟩
  · exact ⟨_, whenDue_pos ⟨hc, hturn, Nat.lt_of_le_of_ne hi.retry ‹_›⟩⟩

/-- At the top of a turn a step takes the next answer, or waits for one. -/
theorem step_turn_defined {s : State} (hs : s.stands .turn) (hp : s.pos.toNat ≤ 132) : ∃ t, step s = .next t := by
  cases hr : s.nextAnswer with
  | none =>
    have hd : s.due = none := by rw [State.due, hs.2]
    exact ⟨s, by rw [step, s.fetch_top hs.1 hd, State.chanRead, hr]; rfl⟩
  | some a =>
    obtain ⟨r, rest, sup⟩ := a
    rw [step_read s r rest sup hs.1 hs.2 hr]
    exact exec_decode_defined (s := { s with rx := rest, supply := sup, ctl := .answered r, trace := .read r :: s.trace })
      ⟨hs.1, rfl⟩ hp

/-- After InvalidFrame a step counts the frame, if refused frames count, and else answers it. -/
theorem step_invalid_defined {s : State} (hs : s.stands .invalid) : ∃ t, step s = .next t := by
  cases hf : s.cfg.countInvalidFrames with
  | false =>
    rw [step_due s .rspNakFrame hs.1 (by simp [State.due, hs.2, hf])]
    exact ⟨_, whenDue_pos (.inl ⟨hs, hf⟩)⟩
  | true =>
    rw [step_due s .errInc hs.1 (by simp [State.due, hs.2, hf])]
    exact execErrInc_defined (s.toCount_badFrame hs hf)

/-- After the sink's answer a step accepts the frame or ends the run. -/
theorem step_sunk_defined {s : State} {n : Nat} (hs : s.stands (.sunk n)) : ∃ t, step s = .next t := by
  rw [step_due s (if n = blockSize then .rspAckFrame else .rspCanSink n) hs.1 (by rw [State.due, hs.2])]
  split
  · subst_vars; exact ⟨_, whenDue_pos hs⟩
  · exact ⟨_, whenDue_pos ⟨hs, ‹_›⟩⟩

/-- In the packet loop the operation that is due at each point is inside its trigger, and finds the buffer written where it
reads it. -/
theorem step_receiving_defined {s : State} (hi : s.Inv) (hc : s.cstate = .receiving) : ∃ t, step s = .next t := by
  have hset : s.ctl.settled = true := hi.ctl.1
  cases hp : s.ctl with
  | turn => exact step_turn_defined ⟨hc, hp⟩ hi.pos
  | answered r => simp [hp, Point.settled] at hset
  | evNoise =>
    rw [step_due s .errInc hc (by rw [State.due, hp])]
    exact execErrInc_defined (s.toCount_noise ⟨hc, hp⟩)
  | counted what =>
    rw [step_due s .errChk hc (by rw [State.due, hp])]
    exact execErrChk_defined ⟨hc, hp⟩
  | checked what isOver =>
    cases isOver with
    | true =>
      rw [step_due s .rspCanNoise hc (by rw [State.due, hp])]
      cases what with
      | noise => exact ⟨_, whenDue_pos (.inl ⟨hc, hp⟩)⟩
      | badFrame => exact ⟨_, whenDue_pos (.inr ⟨hc, hp⟩)⟩
    | false =>
      cases what with
      | noise => rw [step_due s .rspNakNoise hc (by rw [State.due, hp])]; exact ⟨_, whenDue_pos ⟨hc, hp⟩⟩
      | badFrame => rw [step_due s .rspNakFrame hc (by rw [State.due, hp])]; exact ⟨_, whenDue_pos (.inr ⟨hc, hp⟩)⟩
  | evEot =>
    rw [step_due s .rspAckEot hc (by rw [State.due, hp])]
    exact ⟨_, whenDue_pos ⟨hc, hp⟩⟩
  | evFrame =>
    obtain ⟨p, hb⟩ := hi.block_isSome (.inl hp)
    rw [step_due s .valFrame hc (by rw [State.due, hp])]
    exact execValFrame_defined ⟨hc, hp⟩ hb
  | valid =>
    obtain ⟨p, hb⟩ := hi.block_isSome (.inr hp)
    rw [step_due s .rspSink hc (by rw [State.due, hp])]
    exact execRspSink_defined ⟨hc, hp⟩ hb
  | invalid => exact step_invalid_defined ⟨hc, hp⟩
  | sunk n => exact step_sunk_defined ⟨hc, hp⟩
  | writeFailed => simp [hp, Point.settled] at hset

/-- Settles O54: outside a run, in the handshake and in the packet loop. -/
theorem everyStepIsDefined : Obligations.EveryStepIsDefined := by
  intro s hi
  cases hc : s.cstate with
  | idle => exact step_outside_defined (.inl hc)
  | done => exact step_outside_defined (.inr (by simp [State.terminal, hc]))
  | failed c => exact step_outside_defined (.inr (by simp [State.terminal, hc]))
  | negotiating => exact step_negotiating_defined hi hc
  | receiving => exact step_receiving_defined hi hc

end Sys2Proof.Machine
end

section
/-! The receive stream (20_memory.md sections 1 and 5): where a step comes from, that only the top of a turn reads, and
that 133 steps take a whole frame. -/

namespace Sys2Proof.Machine

/-! ### Only the top of a turn reads -/

/-- The fetch of a step that answers `t`, in any state: no move, a call, the handshake, an operation that is due in the
packet loop, or the operation that the next answer of `ChanRead` selects. -/
inductive StepOrigin (s t : State) : Prop
  | noMove (ht : t = s)
  | call (cfg : Config) (rest : List Config) (ho : s.outside) (hq : s.calls = cfg :: rest)
      (h : exec (.recv cfg) { s with calls := rest } = .next t)
  | handshake (hc : s.cstate = .negotiating) (h : exec s.dueHandshake s = .next t)
  | due (i : Instr) (hc : s.cstate = .receiving) (hd : s.due = some i) (h : exec i s = .next t)
  | read (r : Answer) (rest : List Answer) (sup : Supply) (hs : s.stands .turn)
      (hr : s.nextAnswer = some (r, rest, sup))
      (h : exec (decode s.pos r)
        { s with rx := rest, supply := sup, ctl := .answered r, trace := .read r :: s.trace } = .next t)

/-- Only at the top of a turn is no operation due. -/
theorem State.ctl_turn_of_due_none {s : State} (h : s.due = none) : s.ctl = .turn := by
  unfold State.due at h
  split at h
  case h_1 hp => exact hp
  all_goals cases h

/-- Outside a run a step comes from a call, or is no move. -/
theorem step_origin_outside {s t : State} (ho : s.outside) (h : step s = .next t) : StepOrigin s t := by
  cases hq : s.calls with
  | nil =>
    rw [step, s.fetch_outside ho, hq] at h
    cases h; exact .noMove rfl
  | cons cfg rest => exact .call cfg rest ho hq ((step_outside s cfg rest ho hq).symm.trans h)

/-- In the packet loop a step comes from the operation that is due; at the top of a turn, from the next answer, if there
is one. -/
theorem step_origin_receiving {s t : State} (hc : s.cstate = .receiving) (h : step s = .next t) : StepOrigin s t := by
  cases hd : s.due with
  | some i => exact .due i hc hd ((step_due s i hc hd).symm.trans h)
  | none =>
    have hturn : s.ctl = .turn := State.ctl_turn_of_due_none hd
    cases hr : s.nextAnswer with
    | none =>
      rw [step, s.fetch_top hc hd, State.chanRead, hr] at h
      cases h; exact .noMove rfl
    | some a =>
      obtain ⟨r, rest, sup⟩ := a
      exact .read r rest sup ⟨hc, hturn⟩ hr ((step_read s r rest sup hc hturn hr).symm.trans h)

/-- Where every step comes from. -/
theorem step_origin {s t : State} (h : step s = .next t) : StepOrigin s t := by
  cases hc : s.cstate with
  | idle => exact step_origin_outside (.inl hc) h
  | done => exact step_origin_outside (.inr (by simp [State.terminal, hc])) h
  | failed c => exact step_origin_outside (.inr (by simp [State.terminal, hc])) h
  | negotiating => exact .handshake hc ((step_negotiating s hc).symm.trans h)
  | receiving => exact step_origin_receiving hc h

/-- No operation takes an answer of `ChanRead`: the fetch has taken it. -/
theorem exec_takes_no_answer {i : Instr} {s t : State} (h : exec i s = .next t) :
    t.rx = s.rx ∧ t.supply = s.supply ∧ t.reads = s.reads := by
  cases exec_cases h <;> exact ⟨rfl, rfl, rfl⟩

/-- Settles O47: an operation takes no answer, so that a step takes one exactly if its fetch does. -/
theorem onlyTheTopOfATurnReads : Obligations.OnlyTheTopOfATurnReads := by
  intro s t h
  cases step_origin h with
  | noMove ht => subst ht; exact .inl ⟨rfl, rfl, rfl⟩
  | call cfg rest _ _ h => exact .inl (exec_takes_no_answer (s := { s with calls := rest }) h)
  | handshake _ h => exact .inl (exec_takes_no_answer h)
  | due _ _ _ h => exact .inl (exec_takes_no_answer h)
  | read r rest sup hs hr h =>
    obtain ⟨hrx, hsup, hreads⟩ := exec_takes_no_answer h
    exact .inr ⟨hs.1, hs.2, hreads, r, by rw [hr, hrx, hsup]⟩

/-! ### A whole frame -/

/-- The bytes written one after another from address `i` on. -/
def Memory.writeFrom (m : Memory) (i : Nat) : List Byte → Memory
  | [] => m
  | b :: bs => Memory.writeFrom (m.write i b) (i + 1) bs

/-- Bytes written right after a slice lengthen it by them. -/
theorem Memory.slice_writeFrom {m : Memory} {n : Nat} {p : List Byte} (bs : List Byte)
    (h : Memory.slice m 0 n = some p) : Memory.slice (m.writeFrom n bs) 0 (n + bs.length) = some (p ++ bs) := by
  induction bs generalizing m n p with
  | nil => simpa [Memory.writeFrom] using h
  | cons b bs ih => simpa [Memory.writeFrom, Nat.add_assoc, Nat.add_comm 1] using ih (Memory.slice_write m n p b h)

/-- A block written from address 0 is what the buffer holds. -/
theorem Memory.slice_writeFrom_zero (m : Memory) (bs : List Byte) :
    Memory.slice (m.writeFrom 0 bs) 0 bs.length = some bs := by
  simpa using Memory.slice_writeFrom bs (Memory.slice_zero m 0)

/-- The state at the top of a turn after reads of `bs`, with `rest` left on the list. -/
def State.afterReads (s : State) (bs : List Byte) (rest : List Answer) : State :=
  { s with rx := rest, ctl := .turn, trace := (bs.map fun b => Event.read (.byte b)).reverse ++ s.trace }

/-- The state after RX.DATA of each byte of `bs`. -/
def State.afterPayload (s : State) (bs : List Byte) (rest : List Answer) : State :=
  { s.afterReads bs rest with
    payload := s.payload.writeFrom (payloadIndex s.pos) bs
    crc := crcFrom s.crc bs
    pos := s.pos + BitVec.ofNat 8 bs.length }

/-- The state at `EvFrame` once a frame has been taken from the head position on (41_framer.md R101). -/
def State.assembled (s : State) (id idc : Byte) (p : List Byte) (crcHi crcLo : Byte) (rest : List Answer) : State :=
  { s.afterReads (encodeUnit (.frame id idc p crcHi crcLo)) rest with
    head := soh, id := id, idc := idc, payload := s.payload.writeFrom 0 p, crc := crc16 p,
    crcHi := crcHi, crcLo := crcLo, pos := 0, ctl := .evFrame }

section
variable {s : State} {b : Byte} {rest : List Answer}

/-- A step that takes a byte runs the operation that the position selects. -/
theorem step_byte (hs : s.stands .turn) (hrx : s.rx = .byte b :: rest) :
    step s = exec (decodeByte s.pos b) { s.afterReads [b] rest with ctl := .answered (.byte b) } :=
  step_read s (.byte b) rest s.supply hs.1 hs.2 (State.nextAnswer_cons hrx)

/-! The operation of each single-byte field (41_framer.md R91, R94, R95, R97, R98) is due at its position. -/

theorem step_takes_soh (hs : s.stands .turn) (hp : s.pos = 0) (hrx : s.rx = .byte soh :: rest) :
    step s = .next { s.afterReads [soh] rest with head := soh, crc := crcInit, pos := 1 } := by
  rw [step_byte hs hrx, hp]
  exact whenDue_pos ⟨⟨hs.1, rfl⟩, hp⟩

theorem step_takes_id (hs : s.stands .turn) (hp : s.pos = 1) (hrx : s.rx = .byte b :: rest) :
    step s = .next { s.afterReads [b] rest with id := b, pos := 2 } := by
  rw [step_byte hs hrx, hp]
  exact whenDue_pos ⟨⟨hs.1, rfl⟩, hp⟩

theorem step_takes_idc (hs : s.stands .turn) (hp : s.pos = 2) (hrx : s.rx = .byte b :: rest) :
    step s = .next { s.afterReads [b] rest with idc := b, pos := 3 } := by
  rw [step_byte hs hrx, hp]
  exact whenDue_pos ⟨⟨hs.1, rfl⟩, hp⟩

theorem step_takes_crcHi (hs : s.stands .turn) (hp : s.pos = 131) (hrx : s.rx = .byte b :: rest) :
    step s = .next { s.afterReads [b] rest with crcHi := b, pos := 132 } := by
  rw [step_byte hs hrx, hp]
  exact whenDue_pos ⟨⟨hs.1, rfl⟩, hp⟩

theorem step_takes_crcLo (hs : s.stands .turn) (hp : s.pos = 132) (hrx : s.rx = .byte b :: rest) :
    step s = .next { s.afterReads [b] rest with crcLo := b, pos := 0, ctl := .evFrame } := by
  rw [step_byte hs hrx, hp]
  exact whenDue_pos ⟨⟨hs.1, rfl⟩, hp⟩

/-- RX.DATA where it is due. -/
theorem execRxData_stores (hs : s.stands (.answered (.byte b))) (h3 : 3 ≤ s.pos) (h130 : s.pos ≤ 130) :
    execRxData b s = .next { s with payload := s.payload.write (payloadIndex s.pos) b, crc := crcByte s.crc b,
                                    pos := s.pos + 1, ctl := .turn } := by
  rw [execRxData, whenDue_pos ⟨hs, h3, h130⟩, State.memWrite_ok _ _ _ (payloadIndex_lt h130)]
  rfl

/-- At a payload position the byte is stored and folded into the CRC. -/
theorem step_takes_data (hs : s.stands .turn) (h3 : 3 ≤ s.pos) (h130 : s.pos ≤ 130) (hrx : s.rx = .byte b :: rest) :
    step s = .next (s.afterPayload [b] rest) := by
  have hdec : decodeByte s.pos b = .rxData b := by
    rw [decodeByte, if_neg (by bv_omega), if_neg (by bv_omega), if_neg (by bv_omega), if_pos h130]
  rw [step_byte hs hrx, hdec]
  exact execRxData_stores ⟨hs.1, rfl⟩ h3 h130

end

/-- No byte taken leaves the state as it is. -/
theorem State.afterPayload_nil {s : State} (hs : s.ctl = .turn) : s.afterPayload [] s.rx = s := by
  have hpos : s.pos + BitVec.ofNat 8 0 = s.pos := BitVec.add_zero s.pos
  simp [State.afterPayload, State.afterReads, Memory.writeFrom, hpos, ← hs]

/-- One byte after another. -/
theorem State.afterPayload_cons {s : State} (b : Byte) (bs : List Byte) (mid rest : List Answer) (h3 : 3 ≤ s.pos)
    (h130 : s.pos ≤ 130) : (s.afterPayload [b] mid).afterPayload bs rest = s.afterPayload (b :: bs) rest := by
  have hidx : payloadIndex (s.pos + 1#8) = payloadIndex s.pos + 1 := by
    have hnat : (s.pos + 1#8).toNat = s.pos.toNat + 1 := by bv_omega
    have hle : 3 ≤ s.pos.toNat := h3
    simp only [payloadIndex, hnat]; omega
  have hpos : s.pos + 1#8 + BitVec.ofNat 8 bs.length = s.pos + BitVec.ofNat 8 (bs.length + 1) := by
    rw [BitVec.ofNat_add, BitVec.add_assoc, BitVec.add_comm (BitVec.ofNat 8 bs.length)]
  simp [State.afterPayload, State.afterReads, Memory.writeFrom, hidx, hpos]

/-- Bytes that fit between the position and the end of the payload are all stored, one a step. -/
theorem run_takes_payload (bs : List Byte) (rest : List Answer) {s : State} (hs : s.stands .turn) (h3 : 3 ≤ s.pos)
    (hfit : s.pos.toNat + bs.length ≤ 131) (hrx : s.rx = bs.map .byte ++ rest) :
    core.run bs.length s = .next (s.afterPayload bs rest) := by
  induction bs generalizing s with
  | nil =>
    have hrest : s.rx = rest := hrx
    subst hrest
    exact congrArg Host.Outcome.next (State.afterPayload_nil hs.2).symm
  | cons b bs ih =>
    rw [List.length_cons] at hfit
    have h130 : s.pos ≤ 130 := by bv_omega
    have hnat : (s.pos + 1).toNat = s.pos.toNat + 1 := by bv_omega
    rw [List.length_cons, core_run_succ _ (step_takes_data hs h3 h130 hrx),
      ← State.afterPayload_cons b bs (bs.map .byte ++ rest) rest h3 h130]
    refine ih ⟨hs.1, rfl⟩ ?_ ?_ rfl
    · show 3 ≤ s.pos + 1
      bv_omega
    · show (s.pos + 1).toNat + bs.length ≤ 131
      omega

/-- From the head position three steps take SOH and the two bytes of the block number. -/
theorem run_takes_header {s : State} {id idc : Byte} {rest : List Answer} (hs : s.stands .turn) (hp : s.pos = 0)
    (hrx : s.rx = .byte soh :: .byte id :: .byte idc :: rest) :
    core.run 3 s = .next { s.afterReads [soh, id, idc] rest with
      head := soh, crc := crcInit, id := id, idc := idc, pos := 3 } := by
  calc core.run 3 s
    _ = core.run 2 _ := core_run_succ 2 (step_takes_soh hs hp hrx)
    _ = core.run 1 _ := core_run_succ 1 (step_takes_id ⟨hs.1, rfl⟩ rfl rfl)
    _ = .next _ := core_run_succ 0 (step_takes_idc ⟨hs.1, rfl⟩ rfl rfl)

/-- After the payload two steps take the transmitted CRC and complete the frame. -/
theorem run_takes_trailer {s : State} {crcHi crcLo : Byte} {rest : List Answer} (hs : s.stands .turn) (hp : s.pos = 131)
    (hrx : s.rx = .byte crcHi :: .byte crcLo :: rest) :
    core.run 2 s = .next { s.afterReads [crcHi, crcLo] rest with
      crcHi := crcHi, crcLo := crcLo, pos := 0, ctl := .evFrame } := by
  calc core.run 2 s
    _ = core.run 1 _ := core_run_succ 1 (step_takes_crcHi hs hp hrx)
    _ = .next _ := core_run_succ 0 (step_takes_crcLo ⟨hs.1, rfl⟩ rfl rfl)

/-- From the head position 133 steps take a whole frame: its header, its payload, its CRC. -/
theorem run_takes_frame {s : State} {id idc crcHi crcLo : Byte} {p : List Byte} {rest : List Answer} (hh : s.hunting)
    (hp : p.length = 128) (hrx : s.rx = (encodeUnit (.frame id idc p crcHi crcLo)).map .byte ++ rest) :
    core.run 133 s = .next (s.assembled id idc p crcHi crcLo rest) := by
  obtain ⟨hc, hturn, hpos⟩ := hh
  have hbytes : s.rx = .byte soh :: .byte id :: .byte idc :: (p.map .byte ++ .byte crcHi :: .byte crcLo :: rest) := by
    simpa [encodeUnit] using hrx
  have hfit : (3 : Byte).toNat + p.length ≤ 131 := by rw [hp]; decide
  have hlast : (3 : Byte) + BitVec.ofNat 8 p.length = 131 := by rw [hp]; rfl
  have hlen : 133 = 3 + (p.length + 2) := by rw [hp]
  rw [hlen]
  calc core.run (3 + (p.length + 2)) s
    _ = core.run (p.length + 2) _ := core_run_add 3 _ (run_takes_header ⟨hc, hturn⟩ hpos hbytes)
    _ = core.run 2 _ := core_run_add p.length 2 (run_takes_payload p _ ⟨hc, rfl⟩ (by decide : (3 : Byte) ≤ 3) hfit rfl)
    _ = .next _ := run_takes_trailer ⟨hc, rfl⟩ hlast rfl
    _ = .next (s.assembled id idc p crcHi crcLo rest) := by
      simp [State.assembled, State.afterPayload, State.afterReads, encodeUnit, payloadIndex, crc16]

/-- Settles O20: the fields of the state at `EvFrame` after 133 steps. -/
theorem frameIsAssembledIn133Steps : Obligations.FrameIsAssembledIn133Steps := by
  intro s id idc crcHi crcLo p rest hh hp hrx
  have hblock : (s.assembled id idc p crcHi crcLo rest).block = some p := by
    have h := Memory.slice_writeFrom_zero s.payload p
    rwa [hp] at h
  have hcstate : (s.assembled id idc p crcHi crcLo rest).cstate = .receiving := hh.1
  exact ⟨_, run_takes_frame hh hp hrx, hcstate, rfl, rfl, rfl, rfl, rfl, rfl, rfl, hblock, rfl, rfl, rfl, rfl, rfl, rfl,
    rfl, rfl, rfl, rfl, rfl, rfl⟩

end Sys2Proof.Machine
end

section
/-! The encoding's own statements (30_encoding.md): what a byte selects at each position (R68 to R70), that decoding and
encoding agree on operations and on units in both directions, the forms of the complement relation (R66), the triggers
(R71), and what each operation sends (R72). -/

namespace Sys2Proof

/-! ### One byte: the tables of R68 and R69 -/

theorem decode_head_soh : decode 0 (.byte soh) = .rxSoh := rfl
theorem decode_head_eot : decode 0 (.byte eot) = .rxEot := rfl

theorem decode_head_noise {b : Byte} (hsoh : b ≠ soh) (heot : b ≠ eot) : decode 0 (.byte b) = .rxNoise b := by
  show decodeHead b = _
  rw [decodeHead, if_neg hsoh, if_neg heot]

theorem decode_id (b : Byte) : decode 1 (.byte b) = .rxId b := rfl
theorem decode_idc (b : Byte) : decode 2 (.byte b) = .rxIdc b := rfl

theorem decode_data {pos : Byte} (b : Byte) (h3 : 3 ≤ pos) (h130 : pos ≤ 130) : decode pos (.byte b) = .rxData b := by
  have h0 : pos ≠ 0 := by bv_omega
  have h1 : pos ≠ 1 := by bv_omega
  have h2 : pos ≠ 2 := by bv_omega
  rw [decode, decodeByte, if_neg h0, if_neg h1, if_neg h2, if_pos h130]

theorem decode_crcHi (b : Byte) : decode 131 (.byte b) = .rxCrch b := rfl
theorem decode_crcLo (b : Byte) : decode 132 (.byte b) = .rxCrcl b := rfl

/-- What a byte selects is well formed, at every position. -/
theorem decodeByte_wf (pos b : Byte) : (decodeByte pos b).wf = true := by
  unfold decodeByte decodeHead
  split_ifs with _ hsoh heot
  · rfl
  · rfl
  · exact decide_eq_true ⟨hsoh, heot⟩
  all_goals rfl

/-- What a byte selects encodes to that byte, at every position. -/
theorem encode_decodeByte (pos b : Byte) : encode (decodeByte pos b) = [b] := by
  unfold decodeByte decodeHead
  split_ifs with _ hsoh heot
  · rw [hsoh]; rfl
  · rw [heot]; rfl
  all_goals rfl

/-- What a byte selects at a position of a frame is one of the operations that position admits. -/
theorem encodesAt_decodeByte {pos : Byte} (b : Byte) (hpos : pos.toNat ≤ 132) :
    encodesAt pos (decodeByte pos b) = true := by
  unfold decodeByte decodeHead
  split_ifs with h0 hsoh heot h1 h2 h130 h131
  · exact decide_eq_true h0
  · exact decide_eq_true h0
  · exact decide_eq_true h0
  · exact decide_eq_true h1
  · exact decide_eq_true h2
  · have h3 : 3 ≤ pos := by bv_omega
    exact decide_eq_true ⟨h3, h130⟩
  · exact decide_eq_true h131
  · have h132 : pos = 132 := by bv_omega
    exact decide_eq_true h132

/-- The first of the `n + 1` bytes of a table word is the one decoded. -/
theorem decodeTableWord_succ (n nbits w : Nat) (h : (nbits + 7) / 8 = n + 1) :
    decodeTableWord nbits w = some (decode 0 (.byte (BitVec.ofNat 8 (w / 256 ^ n)))) := by
  rw [decodeTableWord, tableBytes, h]; rfl

/-! ### Whole units: R61, R62 and R74 -/

theorem decodeUnit_soh (rest : List Byte) : decodeUnit (soh :: rest) = decodeFrame rest := rfl
theorem decodeUnit_eot (rest : List Byte) : decodeUnit (eot :: rest) = .ok (.eot, rest) := rfl

theorem decodeUnit_noise {b : Byte} (rest : List Byte) (hsoh : b ≠ soh) (heot : b ≠ eot) :
    decodeUnit (b :: rest) = .ok (.noise b, rest) := by
  rw [decodeUnit, if_neg hsoh, if_neg heot]

/-- After SOH come the header, 128 payload bytes and the CRC bytes, whatever follows. -/
theorem decodeFrame_append (id idc crcHi crcLo : Byte) {p : List Byte} (rest : List Byte) (hp : p.length = 128) :
    decodeFrame (id :: idc :: (p ++ crcHi :: crcLo :: rest)) = .ok (.frame id idc p crcHi crcLo, rest) := by
  simp only [decodeFrame, List.drop_left' hp, List.take_left' hp]

/-- The bytes the frame decoder accepts are of that form only. -/
theorem eq_append_of_decodeFrame {bytes rest : List Byte} {u : WireUnit} (h : decodeFrame bytes = .ok (u, rest)) :
    ∃ id idc p crcHi crcLo, p.length = 128 ∧ u = .frame id idc p crcHi crcLo ∧
      bytes = id :: idc :: (p ++ crcHi :: crcLo :: rest) := by
  unfold decodeFrame at h
  split at h
  next id idc body =>
    split at h
    next crcHi crcLo tail hdrop =>
      cases h
      have hlen : (body.take 128).length = 128 := by
        have := congrArg List.length hdrop
        simp at this ⊢
        omega
      exact ⟨id, idc, body.take 128, crcHi, crcLo, hlen, rfl, by rw [← hdrop, List.take_append_drop]⟩
    next => cases h
  next => cases h

/-- A well-formed unit's bytes decode to it, whatever follows: by the unit's kind. -/
theorem decodeUnit_encodeUnit_append {u : WireUnit} (rest : List Byte) (hu : u.wf = true) :
    decodeUnit (encodeUnit u ++ rest) = .ok (u, rest) := by
  cases u with
  | frame id idc p crcHi crcLo =>
    have hp : p.length = 128 := of_decide_eq_true hu
    have hbytes : encodeUnit (.frame id idc p crcHi crcLo) ++ rest = soh :: id :: idc :: (p ++ crcHi :: crcLo :: rest) := by
      simp [encodeUnit]
    rw [hbytes, decodeUnit_soh, decodeFrame_append id idc crcHi crcLo rest hp]
  | eot => exact decodeUnit_eot rest
  | noise b =>
    obtain ⟨hsoh, heot⟩ : b ≠ soh ∧ b ≠ eot := of_decide_eq_true hu
    exact decodeUnit_noise rest hsoh heot

/-- Settles O12: the first byte selects the unit's kind, a frame's fields stand at fixed offsets, and the bytes of a
unit's word are the unit's bytes. -/
theorem unitDecodesFromItsBytes : Obligations.UnitDecodesFromItsBytes := by
  refine ⟨fun u rest hu => decodeUnit_encodeUnit_append rest hu, fun u hu => ?_⟩
  rw [tableBytes_bytesWord]
  simpa using decodeUnit_encodeUnit_append [] hu

/-- Settles O13: by the kind the first byte selects. -/
theorem decodedUnitReencodes : Obligations.DecodedUnitReencodes := by
  intro bytes rest u h
  cases bytes with
  | nil => cases h
  | cons b tail =>
    rw [decodeUnit] at h
    split_ifs at h with hsoh heot
    · obtain ⟨id, idc, p, crcHi, crcLo, hp, rfl, rfl⟩ := eq_append_of_decodeFrame h
      exact ⟨decide_eq_true hp, by simp [encodeUnit, hsoh]⟩
    · cases h
      exact ⟨rfl, by rw [heot]; rfl⟩
    · cases h
      exact ⟨decide_eq_true ⟨hsoh, heot⟩, rfl⟩

/-- Settles O10: the facts about a decoded byte; a channel error decodes to RX.ERR alone. -/
theorem decodeIsTotalAndWellFormed : Obligations.DecodeIsTotalAndWellFormed := by
  refine ⟨fun _ => rfl, fun pos r => ?_⟩
  cases r with
  | chanErr => exact ⟨rfl, fun _ b hb => by cases hb⟩
  | byte c =>
    refine ⟨decodeByte_wf pos c, fun hpos b hb => ?_⟩
    cases hb
    exact ⟨encodesAt_decodeByte c hpos, encode_decodeByte pos c⟩

/-- Settles O11: for the operations that a position selects, the position's row of R68 or R69. -/
theorem operationDecodesFromItsByte : Obligations.OperationDecodesFromItsByte := by
  intro i pos hwf hat
  cases i with
  | rxSoh =>
    obtain rfl : pos = 0 := of_decide_eq_true hat
    exact ⟨soh, rfl, decode_head_soh⟩
  | rxEot =>
    obtain rfl : pos = 0 := of_decide_eq_true hat
    exact ⟨eot, rfl, decode_head_eot⟩
  | rxNoise b =>
    obtain rfl : pos = 0 := of_decide_eq_true hat
    obtain ⟨hsoh, heot⟩ : b ≠ soh ∧ b ≠ eot := of_decide_eq_true hwf
    exact ⟨b, rfl, decode_head_noise hsoh heot⟩
  | rxId b =>
    obtain rfl : pos = 1 := of_decide_eq_true hat
    exact ⟨b, rfl, decode_id b⟩
  | rxIdc b =>
    obtain rfl : pos = 2 := of_decide_eq_true hat
    exact ⟨b, rfl, decode_idc b⟩
  | rxData b =>
    obtain ⟨h3, h130⟩ : 3 ≤ pos ∧ pos ≤ 130 := of_decide_eq_true hat
    exact ⟨b, rfl, decode_data b h3 h130⟩
  | rxCrch b =>
    obtain rfl : pos = 131 := of_decide_eq_true hat
    exact ⟨b, rfl, decode_crcHi b⟩
  | rxCrcl b =>
    obtain rfl : pos = 132 := of_decide_eq_true hat
    exact ⟨b, rfl, decode_crcLo b⟩
  | _ => cases hat

/-- Settles O8: the nine words of one answer compute; a table word is decoded from its first byte. -/
theorem handWrittenWordsDecode : Obligations.HandWrittenWordsDecode := by
  refine ⟨decode_head_soh, decode_head_eot, rfl, rfl, rfl, rfl, rfl, rfl, rfl, rfl, rfl, ?_⟩
  have hfirst : BitVec.ofNat 8 (0x0101FE * 2 ^ 1040 / 256 ^ 132) = soh := by decide +kernel
  rw [decodeTableWord_succ 132 1064 _ rfl, hfirst, decode_head_soh]

/-- Settles O9: the rows of R68 and R69. -/
theorem headByteAndPositionSelect : Obligations.HeadByteAndPositionSelect := by
  refine ⟨fun b => ⟨?_, ?_, decode_head_noise⟩, fun pos b => ⟨?_, ?_, decode_data b, ?_, ?_⟩⟩
  · rintro rfl; exact decode_head_soh
  · rintro rfl; exact decode_head_eot
  · rintro rfl; exact decode_id b
  · rintro rfl; exact decode_idc b
  · rintro rfl; exact decode_crcHi b
  · rintro rfl; exact decode_crcLo b

end Sys2Proof

namespace Sys2Proof.Machine

/-! ### The complement relation, the triggers, and what is sent -/

/-- R66: of the sums of two bytes only 255 is 255 modulo 256. -/
theorem byte_sum_mod_eq_255_iff (x y : Byte) : (x.toNat + y.toNat) % 256 = 255 ↔ x.toNat + y.toNat = 255 := by
  have hx : x.toNat < 256 := x.isLt
  have hy : y.toNat < 256 := y.isLt
  omega

theorem byte_sum_eq_255_iff_sub (x y : Byte) : x.toNat + y.toNat = 255 ↔ y = 255 - x := by
  constructor <;> intro h <;> bv_omega

theorem byte_sub_eq_not (x : Byte) : 255 - x = ~~~x := by bv_omega

theorem byte_eq_not_iff_xor (x y : Byte) : y = ~~~x ↔ x ^^^ y = 0xFF := by
  have hself : x ^^^ ~~~x = BitVec.allOnes 8 := by
    rw [← BitVec.xor_allOnes, ← BitVec.xor_assoc, BitVec.xor_self, BitVec.zero_xor]
  calc y = ~~~x ↔ x ^^^ y = x ^^^ ~~~x := (BitVec.xor_right_inj x).symm
    _ ↔ x ^^^ y = 0xFF := by rw [hself]; rfl

/-- Settles O23: every form is the sum being 255, which is what VAL.CMP tests modulo 256. -/
theorem complementFormsAgree : Obligations.ComplementFormsAgree := by
  intro s
  have hmod : s.cmpOk = true ↔ (s.id.toNat + s.idc.toNat) % 256 = 255 := by rw [s.cmpOk_eq, decide_eq_true_iff]
  have hsum := hmod.trans (byte_sum_mod_eq_255_iff s.id s.idc)
  have hsub := hsum.trans (byte_sum_eq_255_iff_sub s.id s.idc)
  have hnot : s.cmpOk = true ↔ s.idc = ~~~s.id := by rw [hsub, byte_sub_eq_not]
  exact ⟨hsub, hnot, hnot.trans (byte_eq_not_iff_xor s.id s.idc), hmod, hsum⟩

/-- Settles O44: each of the three operations is refused where it is not due. -/
theorem outsideTriggerIsRefused : Obligations.OutsideTriggerIsRefused :=
  fun _ => ⟨fun h => whenDue_neg h, fun h => whenDue_neg h,
    fun _ h => whenDue_neg fun ⟨⟨hc, hctl⟩, h3, h130⟩ => h ⟨hc, hctl, h3, h130⟩⟩

/-- The events one operation adds: its own byte passed to `ChanWrite` at most once, no read, and a sink call only of the
buffer's bytes. -/
theorem exec_adds_events {i : Instr} {s t : State} (h : exec i s = .next t) :
    ∃ new, t.trace = new ++ s.trace ∧ new.filterMap Event.passed = (sends i).toList ∧ (∀ r, Event.read r ∉ new) ∧
      ∀ p n, Event.sink p n ∈ new → i = .rspSink ∧ s.block = some p := by
  cases exec_cases h with
  | rxNoise | rxErr | valFrameInvalid | hsFail | failChan => exact ⟨[.raised _], rfl, rfl, by simp, by simp⟩
  | ackEot | nakNoise | ackFrame | nakFrame => exact ⟨[.write _ true], rfl, rfl, by simp, by simp⟩
  | canNoise | canSink => exact ⟨[.raised _, .write _ true], rfl, rfl, by simp, by simp⟩
  | hsTryFailed | ackEotFailed | nakNoiseFailed | canNoiseFailed | ackFrameFailed | canSinkFailed | nakFrameFailed =>
    exact ⟨[.raised _, .write _ false], rfl, rfl, by simp, by simp⟩
  | hsTryOpen => exact ⟨[.avail true, .write _ true], rfl, rfl, by simp, by simp⟩
  | hsTryWait => exact ⟨[.delay, .avail false, .write _ true], rfl, rfl, by simp, by simp⟩
  | sink p hd hp => exact ⟨[.sink p _], rfl, rfl, by simp, by simp [hp]⟩
  | _ => exact ⟨[], rfl, rfl, by simp, by simp⟩

/-- R72: no other operation sends. -/
theorem sends_eq_some_cases {i : Instr} {b : Byte} (h : sends i = some b) :
    i = .hsTry ∨ i = .rspAckFrame ∨ i = .rspAckEot ∨ i = .rspNakNoise ∨ i = .rspNakFrame ∨ i = .rspCanNoise ∨
      ∃ n, i = .rspCanSink n := by
  cases i with
  | hsTry | rspAckFrame | rspAckEot | rspNakNoise | rspNakFrame | rspCanNoise | rspCanSink => simp
  | _ => cases h

/-- Settles O46: the events each case of an operation adds, and R72's table. -/
theorem operationsSendOnlyTheirByte : Obligations.OperationsSendOnlyTheirByte :=
  ⟨fun _ _ _ h => exec_adds_events h, rfl, rfl, rfl, rfl, rfl, rfl, fun _ => rfl, fun _ _ h => sends_eq_some_cases h⟩

end Sys2Proof.Machine
end

section
/-! The CRC unit's own statements (40_crc.md). Shift steps are linear over XOR and one-to-one, and eight of them move the
low byte up without feedback; the table identity (R87), the residue (R88) and the error property (R89) follow. -/

namespace Sys2Proof.Machine

/-! ### Shift steps are linear over XOR and one-to-one (R82) -/

/-- A shift step with its feedback as a summand, the form in which it is linear. -/
theorem bitstep_eq_shift_xor (c : Word) : bitstep c = c <<< 1 ^^^ if c.getLsbD 15 then crcPoly else 0 := by
  unfold bitstep
  split
  · rfl
  · exact BitVec.xor_zero.symm

theorem bitstep_xor (c d : Word) : bitstep (c ^^^ d) = bitstep c ^^^ bitstep d := by
  have hfeedback : (if (c ^^^ d).getLsbD 15 then crcPoly else 0) =
      (if c.getLsbD 15 then crcPoly else 0) ^^^ if d.getLsbD 15 then crcPoly else 0 := by
    rw [BitVec.getLsbD_xor]
    cases c.getLsbD 15 <;> cases d.getLsbD 15 <;> rfl
  simp only [bitstep_eq_shift_xor, BitVec.shiftLeft_xor_distrib, hfeedback]
  ac_rfl

/-- The polynomial's bit 0 shows that there was feedback; without it the shift drops a zero bit. -/
theorem eq_zero_of_bitstep_eq_zero {c : Word} (h : bitstep c = 0) : c = 0 := by
  unfold bitstep at h
  split at h
  · have hbit : (c <<< 1 ^^^ crcPoly).getLsbD 0 = (0 : Word).getLsbD 0 := by rw [h]
    simp [crcPoly] at hbit
  · refine BitVec.eq_of_getLsbD_eq fun i hi => ?_
    by_cases htop : i = 15
    · subst htop; simpa using ‹¬c.getLsbD 15 = true›
    · have hbit : (c <<< 1).getLsbD (i + 1) = (0 : Word).getLsbD (i + 1) := by rw [h]
      rw [BitVec.getLsbD_shiftLeft] at hbit
      simpa [-BitVec.getLsbD_eq_getElem, show i + 1 < 16 by omega] using hbit

theorem bitstep_injective : Function.Injective bitstep := fun c d h => by
  have hxor : bitstep (c ^^^ d) = 0 := by rw [bitstep_xor, h]; exact BitVec.xor_self
  exact BitVec.xor_eq_zero_iff.1 (eq_zero_of_bitstep_eq_zero hxor)

theorem bitsteps_eq_iterate (n : Nat) (c : Word) : bitsteps n c = bitstep^[n] c := by
  induction n generalizing c with
  | zero => rfl
  | succ n ih => exact ih (bitstep c)

theorem bitsteps_xor (n : Nat) (c d : Word) : bitsteps n (c ^^^ d) = bitsteps n c ^^^ bitsteps n d := by
  induction n generalizing c d with
  | zero => rfl
  | succ n ih => simp only [bitsteps, bitstep_xor, ih]

theorem bitsteps_injective (n : Nat) : Function.Injective (bitsteps n) := by
  rw [show bitsteps n = bitstep^[n] from funext (bitsteps_eq_iterate n)]
  exact bitstep_injective.iterate n

@[simp] theorem bitsteps_zero (n : Nat) : bitsteps n 0 = 0 := by
  induction n with
  | zero => rfl
  | succ n ih => exact ih

theorem bitsteps_eq_zero_iff {n : Nat} {c : Word} : bitsteps n c = 0 ↔ c = 0 :=
  ⟨fun h => bitsteps_injective n (h.trans (bitsteps_zero n).symm), fun h => h ▸ bitsteps_zero n⟩

/-- As long as no set bit reaches bit 15, shift steps only shift. -/
theorem bitsteps_eq_shiftLeft (n : Nat) {c : Word} (h : c.toNat * 2 ^ n < 2 ^ 16) : bitsteps n c = c <<< n := by
  induction n generalizing c with
  | zero => exact (BitVec.shiftLeft_zero c).symm
  | succ n ih =>
    have hpow : c.toNat * 2 * 2 ^ n < 2 ^ 16 := by rwa [Nat.mul_assoc, ← Nat.pow_succ']
    have hlt : c.toNat * 2 < 2 ^ 16 := Nat.lt_of_le_of_lt (Nat.le_mul_of_pos_right _ (Nat.two_pow_pos n)) hpow
    have htop : c.getLsbD 15 = false := Nat.testBit_lt_two_pow (by omega)
    have hstep : bitstep c = c <<< 1 := if_neg (by rw [htop]; decide)
    have hdouble : (c <<< 1).toNat = c.toNat * 2 := by
      rw [BitVec.toNat_shiftLeft, Nat.shiftLeft_eq, Nat.pow_one, Nat.mod_eq_of_lt hlt]
    rw [bitsteps, hstep, ih (by rwa [hdouble]), ← BitVec.shiftLeft_add, Nat.add_comm]

/-- Eight shift steps move a low byte up. -/
theorem bitsteps_zeroExtend (lo : Byte) : bitsteps 8 (lo.zeroExtend 16) = lo.zeroExtend 16 <<< 8 := by
  refine bitsteps_eq_shiftLeft 8 ?_
  have hlo : (lo.zeroExtend 16).toNat = lo.toNat := BitVec.toNat_setWidth_of_le (by decide)
  have hlt : lo.toNat < 256 := lo.isLt
  omega

/-! ### Words as pairs of bytes (R65) -/

/-- The two bytes of a word have no bit in common. -/
theorem word_eq_xor (hi lo : Byte) : word hi lo = hi.zeroExtend 16 <<< 8 ^^^ lo.zeroExtend 16 := by
  refine BitVec.eq_of_getLsbD_eq fun i hi16 => ?_
  by_cases hlow : i < 8
  · simp [word, hlow]
  · simp [word, hlow, BitVec.getLsbD_of_ge lo i (by omega)]

/-- The high byte is shifted out. -/
theorem word_shiftLeft_eight (hi lo : Byte) : word hi lo <<< 8 = lo.zeroExtend 16 <<< 8 := by
  rw [word_eq_xor, BitVec.shiftLeft_xor_distrib, ← BitVec.shiftLeft_add, BitVec.shiftLeft_eq_zero (by decide)]
  exact BitVec.zero_xor

theorem word_hiByte_loByte (c : Word) : word (hiByte c) (loByte c) = c := by
  refine BitVec.eq_of_getLsbD_eq fun i hi16 => ?_
  by_cases hlow : i < 8
  · simp [word, hiByte, loByte, hlow, hi16]
  · have hback : 8 + (i - 8) = i := by omega
    simp [word, hiByte, loByte, hlow, hi16, hback, show i - 8 < 16 by omega, show i - 8 < 8 by omega]

theorem hiByte_word (hi lo : Byte) : hiByte (word hi lo) = hi := by
  refine BitVec.eq_of_getLsbD_eq fun i hi8 => ?_
  simp [word, hiByte, hi8, show 8 + i < 16 by omega, show i < 16 by omega]

theorem loByte_word (hi lo : Byte) : loByte (word hi lo) = lo := by
  refine BitVec.eq_of_getLsbD_eq fun i hi8 => ?_
  simp [word, loByte, hi8]

/-- A word determines its two bytes. -/
theorem word_inj {hi lo hi' lo' : Byte} : word hi lo = word hi' lo' ↔ hi = hi' ∧ lo = lo' := by
  constructor
  · intro h
    exact ⟨by rw [← hiByte_word hi lo, h, hiByte_word], by rw [← loByte_word hi lo, h, loByte_word]⟩
  · rintro ⟨rfl, rfl⟩; rfl

/-! ### The byte fold (R84) -/

/-- Bytes that land on bits 15:8 meet there. -/
theorem zeroExtend_xor_shiftLeft (a b : Byte) :
    (a ^^^ b).zeroExtend 16 <<< 8 = a.zeroExtend 16 <<< 8 ^^^ b.zeroExtend 16 <<< 8 := by
  rw [← BitVec.shiftLeft_xor_distrib, ← BitVec.setWidth_xor]

theorem crcByte_xor (c d : Word) (a b : Byte) : crcByte (c ^^^ d) (a ^^^ b) = crcByte c a ^^^ crcByte d b := by
  simp only [crcByte, zeroExtend_xor_shiftLeft, ← bitsteps_xor]
  congr 1
  ac_rfl

theorem crcByte_zero_zero : crcByte 0 0 = 0 := bitsteps_zero 8

/-- For each byte, folding it is one-to-one in the register. -/
theorem crcByte_left_injective (b : Byte) : Function.Injective (crcByte · b) := fun _ _ h =>
  (BitVec.xor_left_inj _).1 (bitsteps_injective 8 h)

/-- For each register, folding a byte is one-to-one in the byte. -/
theorem crcByte_right_injective (c : Word) : Function.Injective (crcByte c) := fun a b h => by
  have hword : word a 0 = word b 0 := by
    rw [word_eq_xor, word_eq_xor, (BitVec.xor_right_inj c).1 (bitsteps_injective 8 h)]
  exact (word_inj.1 hword).1

/-- From zero, the fold is eight shift steps on the byte in bits 15:8. -/
theorem crcByte_zero (b : Byte) : crcByte 0 b = bitsteps 8 (b.zeroExtend 16 <<< 8) :=
  congrArg (bitsteps 8) BitVec.zero_xor

/-- The high byte of the register meets the folded byte; the low byte moves up. -/
theorem crcByte_word (hi lo b : Byte) : crcByte (word hi lo) b = word hi lo <<< 8 ^^^ crcByte 0 (hi ^^^ b) := by
  calc crcByte (word hi lo) b
      = bitsteps 8 (lo.zeroExtend 16 ^^^ (hi ^^^ b).zeroExtend 16 <<< 8) := by
        rw [crcByte, word_eq_xor, zeroExtend_xor_shiftLeft]
        congr 1
        ac_rfl
    _ = word hi lo <<< 8 ^^^ crcByte 0 (hi ^^^ b) := by
        rw [bitsteps_xor, bitsteps_zeroExtend, word_shiftLeft_eight, crcByte_zero]

/-- Two bytes folded one after the other are sixteen shift steps on the register XOR the word they make. -/
theorem crcFrom_pair (c : Word) (hi lo : Byte) : crcFrom c [hi, lo] = bitsteps 16 (c ^^^ word hi lo) := by
  calc crcFrom c [hi, lo]
      = bitsteps 8 (bitsteps 8 (c ^^^ hi.zeroExtend 16 <<< 8) ^^^ bitsteps 8 (lo.zeroExtend 16)) := by
        rw [bitsteps_zeroExtend]; rfl
    _ = bitsteps 8 (bitsteps 8 (c ^^^ word hi lo)) := by
        rw [← bitsteps_xor, BitVec.xor_assoc, ← word_eq_xor]
    _ = bitsteps 16 (c ^^^ word hi lo) := rfl

theorem crc16_append_pair (p : List Byte) (hi lo : Byte) :
    crc16 (p ++ [hi, lo]) = bitsteps 16 (crc16 p ^^^ word hi lo) := by
  rw [crc16, crcFrom_append, crcFrom_pair, crc16]

/-! ### The fold of a buffer (R83) -/

theorem crcFrom_eq_foldl (c : Word) (bs : List Byte) : crcFrom c bs = bs.foldl crcByte c := by
  induction bs generalizing c with
  | nil => rfl
  | cons b bs ih => exact ih (crcByte c b)

theorem crcFrom_xor (c d : Word) {p e : List Byte} (h : p.length = e.length) :
    crcFrom (c ^^^ d) (List.zipWith (· ^^^ ·) p e) = crcFrom c p ^^^ crcFrom d e := by
  induction p generalizing c d e with
  | nil =>
    obtain rfl : e = [] := List.length_eq_zero_iff.1 h.symm
    rfl
  | cons a p ih =>
    cases e with
    | nil => cases h
    | cons b e =>
      rw [List.zipWith_cons_cons, crcFrom_cons, crcByte_xor, ih _ _ (Nat.succ.inj h), crcFrom_cons, crcFrom_cons]

theorem crcFrom_left_injective (bs : List Byte) : Function.Injective (crcFrom · bs) := by
  induction bs with
  | nil => exact fun _ _ h => h
  | cons b bs ih => exact ih.comp (crcByte_left_injective b)

/-- A buffer with one byte replaced has the same CRC exactly if the byte is the same. -/
theorem crc16_set_eq_iff {p : List Byte} {k : Nat} (hk : k < p.length) {b : Byte} :
    crc16 (p.set k b) = crc16 p ↔ b = p[k] := by
  constructor
  · intro h
    have hp : p = p.take k ++ p[k] :: p.drop (k + 1) := by simp
    rw [List.set_eq_take_append_cons_drop, if_pos hk] at h
    conv_rhs at h => rw [hp]
    rw [crc16, crc16, crcFrom_append, crcFrom_append, crcFrom_cons, crcFrom_cons] at h
    exact crcByte_right_injective _ (crcFrom_left_injective _ h)
  · rintro rfl; rw [List.set_getElem_self]

/-- Flipping one bit changes a byte. -/
theorem byte_flip_ne (b : Byte) {j : Nat} (hj : j < 8) : b ^^^ (1 <<< j) ≠ b := by
  intro h
  have hmask : BitVec.ofNat 8 (1 <<< j) = 0 := (BitVec.xor_right_inj b).1 (h.trans BitVec.xor_zero.symm)
  have hnum : 2 ^ j % 2 ^ 8 = 0 := by simpa [Nat.one_shiftLeft] using congrArg BitVec.toNat hmask
  rw [Nat.mod_eq_of_lt (Nat.pow_lt_pow_right (by decide) hj)] at hnum
  exact (Nat.two_pow_pos j).ne' hnum

/-! ### The statements -/

/-- Settles O3: the buffer's CRC is the library's left fold; folding a zero byte into zero leaves zero. -/
theorem crcBufFoldsFromZero : Obligations.CrcBufFoldsFromZero := by
  refine ⟨fun buf s _ _ => ?_, rfl, fun buf => ?_⟩
  · rw [← crcFrom_eq_foldl]; rfl
  · rw [crc16, crcFrom_cons, crcByte_zero_zero, crc16]

/-- Settles O5: linearity separates the register's low byte, which only moves up. -/
theorem crcByteTableIdentity : Obligations.CrcByteTableIdentity := by
  intro c b
  have h := crcByte_word (hiByte c) (loByte c) b
  rwa [word_hiByte_loByte] at h

/-- Settles O6: the final register is a one-to-one image, fixing zero, of the buffer's CRC XOR the appended word. -/
theorem crcZeroResidue : Obligations.CrcZeroResidue := by
  intro p hi lo
  refine ⟨?_, fun hi' lo' h => ?_⟩
  · calc crc16 (p ++ [hi, lo]) = 0
        ↔ crc16 p ^^^ word hi lo = 0 := by rw [crc16_append_pair]; exact bitsteps_eq_zero_iff
      _ ↔ word hi lo = crc16 p := BitVec.xor_eq_zero_iff.trans eq_comm
  · rw [crc16_append_pair, crc16_append_pair] at h
    exact word_inj.1 ((BitVec.xor_right_inj _).1 (bitsteps_injective 16 h))

/-- Settles O7: linearity byte by byte; one changed byte of the buffer changes the CRC, one changed byte of the received
CRC changes that word. -/
theorem singleBitErrorsAreCaught : Obligations.SingleBitErrorsAreCaught := by
  refine ⟨fun p e h => ?_, fun p hi lo hcrc => ⟨fun k hk j hj h => ?_, fun j hj => ⟨fun h => ?_, fun h => ?_⟩⟩⟩
  · exact crcFrom_xor 0 0 h
  · exact byte_flip_ne _ hj ((crc16_set_eq_iff hk).1 (h.trans hcrc))
  · exact byte_flip_ne hi hj (word_inj.1 (hcrc.trans h)).1.symm
  · exact byte_flip_ne lo hj (word_inj.1 (hcrc.trans h)).2.symm

/-- Settles O1: RX.SOH's point is CRC.CLR's first trigger. -/
theorem crcClrClearsRegister : Obligations.CrcClrClearsRegister :=
  fun _ hc hctl hpos => whenDue_pos (.inl ⟨⟨hc, hctl⟩, hpos⟩)

/-- Settles O2: both are due while RX.DATA has a byte in hand; the eight shift steps are the step's eighth iterate. -/
theorem crcBitAndCrcUpd : Obligations.CrcBitAndCrcUpd := by
  refine ⟨fun c b s hc hctl h3 h130 => ?_, fun b s hc hctl h3 h130 => ?_⟩
  · exact whenDue_pos ⟨hc, by rw [hctl]; rfl, h3, h130⟩
  · rw [← bitsteps_eq_iterate]
    exact whenDue_pos ⟨⟨hc, hctl⟩, h3, h130⟩

end Sys2Proof.Machine
end

section
/-! The framer's own statements (41_framer.md): each RX operation where it is due (R91 to R99), the transition table of
`pos` (R100), and the operation a step runs at the top of a turn (R90) and at every other point (R120, R125). -/

namespace Sys2Proof.Machine

section
variable {s : State} {b : Byte}

/-! ### Each operation where it is due -/

theorem execRxSoh_due (hs : s.stands (.answered (.byte soh))) (hp : s.pos = 0) :
    execRxSoh s = .next { s with head := soh, crc := crcInit, pos := 1, ctl := .turn } :=
  whenDue_pos ⟨hs, hp⟩

theorem execRxEot_due (hs : s.stands (.answered (.byte eot))) (hp : s.pos = 0) :
    execRxEot s = .next { s with head := eot, pos := 0, ctl := .evEot } :=
  whenDue_pos ⟨hs, hp⟩

theorem execRxNoise_due (hs : s.stands (.answered (.byte b))) (hp : s.pos = 0) (hsoh : b ≠ soh) (heot : b ≠ eot) :
    execRxNoise b s =
      .next { s with head := b, pos := 0, ctl := .evNoise, trace := .raised (.noiseByte b) :: s.trace } :=
  whenDue_pos ⟨hs, hp, hsoh, heot⟩

theorem execRxId_due (hs : s.stands (.answered (.byte b))) (hp : s.pos = 1) :
    execRxId b s = .next { s with id := b, pos := 2, ctl := .turn } :=
  whenDue_pos ⟨hs, hp⟩

theorem execRxIdc_due (hs : s.stands (.answered (.byte b))) (hp : s.pos = 2) :
    execRxIdc b s = .next { s with idc := b, pos := 3, ctl := .turn } :=
  whenDue_pos ⟨hs, hp⟩

theorem execRxCrch_due (hs : s.stands (.answered (.byte b))) (hp : s.pos = 131) :
    execRxCrch b s = .next { s with crcHi := b, pos := 132, ctl := .turn } :=
  whenDue_pos ⟨hs, hp⟩

theorem execRxCrcl_due (hs : s.stands (.answered (.byte b))) (hp : s.pos = 132) :
    execRxCrcl b s = .next { s with crcLo := b, pos := 0, ctl := .evFrame } :=
  whenDue_pos ⟨hs, hp⟩

theorem execRxErr_due (hs : s.stands (.answered .chanErr)) :
    execRxErr s = .next { s with cstate := .failed .channelFailure, ctl := .turn,
                                 trace := .raised (.channelFailure .read (some s.pos)) :: s.trace } :=
  whenDue_pos hs

end

/-- Settles O16: the buffer after RX.DATA is the old one with one byte written, read by the laws of `Memory.write`. -/
theorem rxDataStoresAndFolds : Obligations.RxDataStoresAndFolds := fun b s hc hctl h3 h130 =>
  ⟨s.payload.write (payloadIndex s.pos) b, execRxData_stores ⟨hc, hctl⟩ h3 h130, Memory.read_write_same _ _ _,
    fun a ha => Memory.read_write_other _ _ a b ha⟩

/-- Settles O14: the three operations of the head position where they are due. -/
theorem rxAtTheHeadPosition : Obligations.RxAtTheHeadPosition :=
  ⟨fun _ hc hctl hp => execRxSoh_due ⟨hc, hctl⟩ hp, fun _ hc hctl hp => execRxEot_due ⟨hc, hctl⟩ hp,
    fun _ _ hsoh heot hc hctl hp => execRxNoise_due ⟨hc, hctl⟩ hp hsoh heot⟩

/-- Settles O15: the four storing operations where they are due. -/
theorem rxHeaderAndCrcBytesAreStored : Obligations.RxHeaderAndCrcBytesAreStored := fun _ _ hc hctl =>
  ⟨execRxId_due ⟨hc, hctl⟩, execRxIdc_due ⟨hc, hctl⟩, execRxCrch_due ⟨hc, hctl⟩, execRxCrcl_due ⟨hc, hctl⟩⟩

/-- Settles O17: RX.ERR is due at any position. -/
theorem rxErrRaisesChannelFailure : Obligations.RxErrRaisesChannelFailure := fun _ hc hctl => execRxErr_due ⟨hc, hctl⟩

/-! ### The transition table of `pos` (R100) -/

/-- The rows of R100: `pos`, the event as the point the controller is left at, and `cstate`, after one answer. -/
def posRow (pos : Byte) : Answer → Byte × Point × CState
  | .chanErr => (pos, .turn, .failed .channelFailure)
  | .byte b =>
    if pos = 0 then
      if b = soh then (1, .turn, .receiving) else if b = eot then (0, .evEot, .receiving) else (0, .evNoise, .receiving)
    else if pos = 132 then (0, .evFrame, .receiving)
    else (pos + 1, .turn, .receiving)

/-- At the head position the three classes of R68 give the first three rows. -/
theorem exec_head_follows_posRow {s : State} {b : Byte} (hs : s.stands (.answered (.byte b))) (hp : s.pos = 0) :
    ∃ t, exec (decode 0 (.byte b)) s = .next t ∧ (t.pos, t.ctl, t.cstate) = posRow 0 (.byte b) := by
  obtain ⟨hc, hctl⟩ := hs
  by_cases hsoh : b = soh
  · subst hsoh
    exact ⟨_, execRxSoh_due ⟨hc, hctl⟩ hp, by simp [posRow, hc]⟩
  by_cases heot : b = eot
  · subst heot
    exact ⟨_, execRxEot_due ⟨hc, hctl⟩ hp, by simp [posRow, hc]⟩
  rw [decode_head_noise hsoh heot]
  exact ⟨_, execRxNoise_due ⟨hc, hctl⟩ hp hsoh heot, by simp only [posRow, if_pos, if_neg hsoh, if_neg heot, hc]⟩

/-- The positions of a frame after the head (R69): header, payload, CRC. -/
theorem pos_cases {pos : Byte} (h : pos.toNat ≤ 132) :
    pos = 0 ∨ pos = 1 ∨ pos = 2 ∨ (3 ≤ pos ∧ pos ≤ 130) ∨ pos = 131 ∨ pos = 132 := by
  bv_omega

/-- The operation that an answer selects leaves `pos`, the point and `cstate` as the answer's row says. -/
theorem exec_decode_follows_posRow {s : State} {r : Answer} (hs : s.stands (.answered r)) (hp : s.pos.toNat ≤ 132) :
    ∃ t, exec (decode s.pos r) s = .next t ∧ (t.pos, t.ctl, t.cstate) = posRow s.pos r := by
  cases r with
  | chanErr => exact ⟨_, execRxErr_due hs, rfl⟩
  | byte b =>
    rcases pos_cases hp with h | h | h | ⟨h3, h130⟩ | h | h
    · rw [h]; exact exec_head_follows_posRow hs h
    · rw [h]; exact ⟨_, execRxId_due hs h, by simp [posRow, hs.1]⟩
    · rw [h]; exact ⟨_, execRxIdc_due hs h, by simp [posRow, hs.1]⟩
    · rw [decode_data b h3 h130]
      have h0 : s.pos ≠ 0 := by bv_omega
      have h132 : s.pos ≠ 132 := by bv_omega
      exact ⟨_, execRxData_stores hs h3 h130, by simp only [posRow, if_neg h0, if_neg h132, hs.1]⟩
    · rw [h]; exact ⟨_, execRxCrch_due hs h, by simp [posRow, hs.1]⟩
    · rw [h]; exact ⟨_, execRxCrcl_due hs h, by simp [posRow, hs.1]⟩

/-- A run in progress is not over. -/
theorem State.not_outside_of_running {s : State} (h : s.running) : ¬ s.outside := by
  rcases h with hc | hc <;> simp [State.outside, State.terminal, hc]

/-- A step of a run that takes no answer is none of the framer's, and no other operation of a run moves `pos`. -/
theorem step_without_read_keeps_pos {s t : State} (hi : s.CtlInv) (hrun : s.running) (h : step s = .next t)
    (hreads : t.reads = s.reads) : t.pos = s.pos := by
  cases step_cases hi h with
  | rxErr | rxSoh | rxEot | rxNoise | rxId | rxIdc | rxData | rxCrch | rxCrcl =>
    exact absurd hreads (Nat.succ_ne_self s.reads)
  | recv cfg rest _ ho => exact absurd ho (State.not_outside_of_running hrun)
  | _ => rfl

/-- Settles O18: the operation that the answer selects takes the row of R100; the other steps of a run leave `pos`. -/
theorem posFollowsTransitionTable : Obligations.PosFollowsTransitionTable := by
  refine ⟨fun s r rest sup hc hctl hr hp => ?_, fun _ _ => step_without_read_keeps_pos⟩
  obtain ⟨t, ht, hrow⟩ := exec_decode_follows_posRow
    (s := { s with rx := rest, supply := sup, ctl := .answered r, trace := .read r :: s.trace }) ⟨hc, rfl⟩ hp
  obtain ⟨hrx, hsup, -⟩ := exec_takes_no_answer ht
  refine ⟨t, (step_read s r rest sup hc hctl hr).trans ht, hrx, hsup, hrow.trans ?_⟩
  cases r <;> rfl

/-! ### The operation a step runs -/

/-- What an answer selects is well formed. -/
theorem decode_wf (pos : Byte) (r : Answer) : (decode pos r).wf = true := by
  cases r with
  | byte b => exact decodeByte_wf pos b
  | chanErr => rfl

/-- Settles O40: the fetch at the top of a turn, and the three supplies. -/
theorem stepRunsTheDecodedOperation : Obligations.StepRunsTheDecodedOperation := by
  refine ⟨fun s r rest sup hc hctl hr => ⟨step_read s r rest sup hc hctl hr, decode_wf s.pos r⟩,
    fun s => ⟨fun r rest h => State.nextAnswer_cons h, fun h => ?_⟩⟩
  rw [State.nextAnswer_nil h]
  refine ⟨fun hs => ?_, fun first rest hs => ?_, fun n hs => ?_⟩ <;> rw [hs, Supply.next]

/-- A step in the handshake that no failed write has ended (R120). -/
theorem step_handshake {s : State} (hc : s.cstate = .negotiating) (hctl : s.ctl ≠ .writeFailed) :
    step s = if s.retryCount = s.cfg.handshakeRetries then exec .hsFail s else exec .hsTry s := by
  rw [step_negotiating s hc, State.dueHandshake, if_neg hctl, apply_ite (exec · s)]

/-- In the packet loop a step is the operation that is due at the point where the controller stands. -/
theorem step_at {s : State} {p : Point} {i : Instr} (hc : s.cstate = .receiving) (hp : s.ctl = p)
    (hd : ({ s with ctl := p } : State).due = some i) : step s = exec i s := by
  subst hp
  exact step_due s i hc hd

/-- The operation that follows InvalidFrame, by the switch (R112). -/
theorem step_invalid {s : State} (hc : s.cstate = .receiving) (hp : s.ctl = .invalid) :
    step s = if s.cfg.countInvalidFrames = true then exec .errInc s else exec .rspNakFrame s := by
  rw [step_at hc hp rfl, apply_ite (exec · s)]

/-- The operation that follows the sink's answer, by its count (R125). -/
theorem step_sunk {s : State} {n : Nat} (hc : s.cstate = .receiving) (hp : s.ctl = .sunk n) :
    step s = if n = blockSize then exec .rspAckFrame s else exec (.rspCanSink n) s := by
  rw [step_at hc hp rfl, apply_ite (exec · s)]

/-- Settles O41: `due` computes at each point of the packet loop; the switch and the sink's count choose at two of them. -/
theorem stepRunsTheDueOperation : Obligations.StepRunsTheDueOperation := by
  refine ⟨fun s hc => ?_, fun s hc => ?_, fun s hc => ?_, fun s hc => ?_, step_outside⟩
  · have hsink (n : Nat) (hn : n ≠ 128) (hp : s.ctl = .sunk n) : step s = exec (.rspCanSink n) s :=
      (step_sunk hc hp).trans (if_neg hn)
    have hoff (hp : s.ctl = .invalid) (hf : s.cfg.countInvalidFrames = false) : step s = exec .rspNakFrame s :=
      (step_invalid hc hp).trans (if_neg (Bool.eq_false_iff.1 hf))
    exact ⟨(step_at hc · rfl), (step_at hc · rfl), (step_at hc · rfl), (step_at hc · rfl), (step_at hc · rfl),
      (step_at hc · rfl), (step_at hc · rfl), (step_at hc · rfl), hsink, hoff⟩
  · have hon (hp : s.ctl = .invalid) (hf : s.cfg.countInvalidFrames = true) : step s = exec .errInc s :=
      (step_invalid hc hp).trans (if_pos hf)
    exact ⟨hon, (step_at hc · rfl), (step_at hc · rfl), (step_at hc · rfl)⟩
  · exact ⟨fun _ => (step_at hc · rfl), (step_at hc · rfl)⟩
  · exact ⟨step_handshake hc, fun hp => by rw [step_negotiating s hc, State.dueHandshake, if_pos hp]⟩

end Sys2Proof.Machine
end

section
/-! The invariant of the states between two steps: it holds in the state of a run about to begin, so at reset and after
RECV, and every step keeps each of its parts (42_validator.md section 5, R117; 40_crc.md R86; 20_memory.md R55). -/

namespace Sys2Proof.Machine

/-! ### The beginning of a run -/

/-- At the top of a turn, with nothing of a frame taken and both counters at 0, the invariant holds. -/
theorem State.Inv.of_fresh {s : State} (hpayload : s.payload = []) (hctl : s.ctl = .turn) (hpos : s.pos = 0)
    (herr : s.errCount = 0) (hretry : s.retryCount = 0) : s.Inv where
  mem := by rw [hpayload]; exact Memory.wf_nil
  ctl := by simp [State.CtlInv, hctl, hpos, Point.settled]
  pos := by simp [State.PosInv, hpos]
  err := by simp [State.ErrInv, hctl, herr]
  retry := by simp [State.RetryInv, hretry]
  frame := by simp [State.FrameInv, State.framed, hpos, hctl]
  accept := by simp [State.AcceptInv, hctl]

/-- Settles O52: reset is such a state. -/
theorem invariantHoldsAtReset : Obligations.InvariantHoldsAtReset := .of_fresh rfl rfl rfl rfl rfl

/-- RECV leaves such a state. -/
theorem execRecv_inv {cfg : Config} {s t : State} (h : execRecv cfg s = .next t) : t.Inv := by
  cases h
  exact .of_fresh rfl rfl rfl rfl rfl

/-! ### The buffer, the control and the position -/

section
variable {s t : State}

theorem StepCase.keeps_payload_wf (h : StepCase s t) (hm : s.payload.wf) : t.payload.wf := by
  cases h with
  | recv _ _ _ _ _ ht => exact (execRecv_inv ht).mem
  | rxData b _ _ _ _ _ h130 => exact Memory.wf_write hm (payloadIndex_lt h130)
  | _ => exact hm

/-- A response is owed only at the head position (R54). -/
theorem State.CtlInv.pos_eq_zero (hi : s.CtlInv) (h : s.ctl ≠ .turn) : s.pos = 0 := hi.2.2 h

theorem StepCase.keeps_ctlInv (h : StepCase s t) (hi : s.CtlInv) : t.CtlInv := by
  cases h with
  | noMove => exact hi
  | recv _ _ _ _ _ ht => exact (execRecv_inv ht).ctl
  | rxEot _ _ hs | rxNoise _ _ _ hs | rxCrcl _ _ _ hs => simp [State.CtlInv, Point.settled, hs.1]
  | errInc what hs =>
    have hs : s.cstate = .receiving ∧ s.ctl ≠ .turn := by
      rcases hs with ⟨⟨hc, hp⟩, -⟩ | ⟨⟨hc, hp⟩, -⟩ <;> simp [hc, hp]
    simp [State.CtlInv, Point.settled, hs.1, hi.pos_eq_zero hs.2]
  | errChk _ hs | valid _ hs | invalid hs | sink _ hs =>
    have hpos : s.pos = 0 := hi.pos_eq_zero (by simp [hs.2])
    simp [State.CtlInv, Point.settled, hs.1, hpos]
  | hsOpen _ hp | hsWait _ hp => simp [State.CtlInv, Point.settled, hp]
  | _ => simp [State.CtlInv, Point.settled]

/-- RX.DATA, the only operation that counts `pos` up, does so from 130 at most. -/
theorem StepCase.keeps_posInv (h : StepCase s t) (hp : s.PosInv) : t.PosInv := by
  cases h with
  | recv _ _ _ _ _ ht => exact (execRecv_inv ht).pos
  | rxSoh | rxEot | rxNoise | rxId | rxIdc | rxCrch | rxCrcl => simp [State.PosInv]
  | rxData b _ _ _ _ _ h130 =>
    show (s.pos + 1).toNat ≤ 132
    bv_omega
  | _ => exact hp

/-! ### The counters -/

/-- R123: an attempt is made only below the bound. -/
theorem StepCase.keeps_retryInv (h : StepCase s t) (hr : s.RetryInv) : t.RetryInv := by
  cases h with
  | recv _ _ _ _ _ ht => exact (execRecv_inv ht).retry
  | hsOpen _ _ hlt | hsWait _ _ hlt | hsWriteFailed _ _ hlt => exact hlt
  | _ => exact hr

/-- The control has no increment of the error counter to settle. -/
def Point.balanced : Point → Bool
  | .counted _ | .checked _ _ => false
  | .turn | .answered _ | .evNoise | .evEot | .evFrame | .valid | .invalid | .sunk _ | .writeFailed => true

theorem State.errInv_of_balanced (hb : s.ctl.balanced = true) :
    s.ErrInv ↔ s.errCount ≤ s.cfg.errCeiling ∨ (s.cstate.isFailed = true ∧ s.errCount ≤ s.cfg.errCeiling + 1) := by
  unfold State.ErrInv
  cases hp : s.ctl with
  | counted | checked => simp [hp, Point.balanced] at hb
  | _ => rfl

/-- At every point the counter is at most one over the ceiling. -/
theorem State.ErrInv.le_succ (h : s.ErrInv) : s.errCount ≤ s.cfg.errCeiling + 1 := by
  unfold State.ErrInv at h
  split at h <;> omega

/-- While a run is in progress, only an increment not yet settled puts the counter over the ceiling. -/
theorem State.ErrInv.le_of_balanced (h : s.ErrInv) (hb : s.ctl.balanced = true) (hf : s.cstate.isFailed = false) :
    s.errCount ≤ s.cfg.errCeiling := by
  rcases (State.errInv_of_balanced hb).1 h with hle | ⟨hfail, -⟩
  · exact hle
  · rw [hf] at hfail; cases hfail

/-- A count found not over the ceiling is not over it. -/
theorem State.ErrInv.le_of_checked_false {what : Counted} (h : s.ErrInv) (hp : s.ctl = .checked what false) :
    s.errCount ≤ s.cfg.errCeiling := by
  simp only [State.ErrInv, hp] at h
  obtain ⟨-, hover⟩ := h
  simpa [State.overCeiling] using hover.symm

/-- A run that goes on with the counter not over the ceiling, and no increment to settle. -/
theorem State.ErrInv.of_le (hb : s.ctl.balanced = true) (hle : s.errCount ≤ s.cfg.errCeiling) : s.ErrInv :=
  (State.errInv_of_balanced hb).2 (.inl hle)

/-- A run that has failed, with the counter at most one over the ceiling. -/
theorem State.ErrInv.of_failed (hb : s.ctl.balanced = true) (hf : s.cstate.isFailed = true)
    (hle : s.errCount ≤ s.cfg.errCeiling + 1) : s.ErrInv :=
  (State.errInv_of_balanced hb).2 (.inr ⟨hf, hle⟩)

/-- R114, R117: an increment starts from a counter not over the ceiling; ERR.CHK says which way it went; over the
ceiling the run fails, and else it goes on. -/
theorem StepCase.keeps_errInv (h : StepCase s t) (he : s.ErrInv) : t.ErrInv := by
  cases h with
  | noMove => exact he
  | recv _ _ _ _ _ ht => exact (execRecv_inv ht).err
  | hsOpen hc hp | hsWait hc hp =>
    have hb : s.ctl.balanced = true := by rw [hp]; rfl
    exact .of_le hb (he.le_of_balanced hb (by simp [hc, CState.isFailed]))
  | rxSoh _ _ hs | rxEot _ _ hs | rxNoise _ _ _ hs | rxId _ _ _ hs | rxIdc _ _ _ hs | rxData _ _ _ hs | rxCrch _ _ _ hs
  | rxCrcl _ _ _ hs | valid _ hs | invalid hs | sink _ hs | ackEot hs =>
    exact .of_le rfl (he.le_of_balanced (by simp [hs.2, Point.balanced]) (by simp [hs.1, CState.isFailed]))
  | nakNoise hs => exact .of_le rfl (he.le_of_checked_false hs.2)
  | nakFrame hs =>
    refine .of_le rfl ?_
    rcases hs with ⟨hs, -⟩ | hs
    · exact he.le_of_balanced (by simp [hs.2, Point.balanced]) (by simp [hs.1, CState.isFailed])
    · exact he.le_of_checked_false hs.2
  | hsWriteFailed | hsFail | rxErr | canNoise | canSink | responseFailed => exact .of_failed rfl rfl he.le_succ
  | ackFrame | ackFrameFailed => exact .of_le rfl (Nat.zero_le _)
  | errInc what hs =>
    have hle : s.errCount ≤ s.cfg.errCeiling := by
      rcases hs with ⟨hs, -⟩ | ⟨hs, -⟩ <;>
        exact he.le_of_balanced (by simp [hs.2, Point.balanced]) (by simp [hs.1, CState.isFailed])
    exact Nat.succ_le_succ hle
  | errChk => exact ⟨he.le_succ, rfl⟩

/-! ### The frame in the buffer -/

/-- Inside a frame the payload bytes taken so far count. -/
theorem State.framed_inside (h : s.pos ≠ 0) : s.framed = some (min (s.pos.toNat - 3) blockSize) := if_pos h

/-- Once a frame is complete all of its payload counts. -/
theorem State.framed_complete (hpos : s.pos = 0)
    (hp : s.ctl = .evFrame ∨ s.ctl = .valid ∨ s.ctl = .invalid ∨ ∃ n, s.ctl = .sunk n) : s.framed = some blockSize := by
  rcases hp with hp | hp | hp | ⟨n, hp⟩ <;> simp [State.framed, hpos, hp]

/-- At the head position no payload byte counts while no frame is to be answered. -/
theorem State.framed_none (hpos : s.pos = 0)
    (hp : s.ctl = .turn ∨ s.ctl = .evNoise ∨ s.ctl = .evEot ∨ (∃ what, s.ctl = .counted what) ∨
      ∃ what isOver, s.ctl = .checked what isOver) : s.framed = none := by
  rcases hp with hp | hp | hp | ⟨what, hp⟩ | ⟨what, isOver, hp⟩ <;> simp [State.framed, hpos, hp]

theorem State.FrameInv.of_none (h : s.framed = none) : s.FrameInv := fun k hk => by rw [h] at hk; cases hk

/-- With `k` bytes of a frame in the buffer and the register their CRC. -/
theorem State.FrameInv.of_some {k : Nat} {p : List Byte} (h : s.framed = some k) (hp : s.payload.slice 0 k = some p)
    (hcrc : s.crc = crc16 p) : s.FrameInv := fun k' hk => by
  rw [h] at hk
  cases hk
  exact ⟨p, hp, hcrc⟩

/-- The bytes of the frame, the buffer and the register as they were. -/
theorem State.FrameInv.of_eq (h : s.FrameInv) (hf : t.framed = s.framed) (hpayload : t.payload = s.payload)
    (hcrc : t.crc = s.crc) : t.FrameInv := by
  intro k hk
  rw [hf] at hk
  rw [hpayload, hcrc]
  exact h k hk

/-- Back at the top of a turn, inside the same frame or at the head position with the frame answered. -/
theorem State.FrameInv.of_turn (h : s.FrameInv) (hi : s.CtlInv) (hp : t.ctl = .turn) (hpos : t.pos = s.pos)
    (hpayload : t.payload = s.payload) (hcrc : t.crc = s.crc) : t.FrameInv := by
  by_cases hs : s.ctl = .turn
  · exact h.of_eq (by simp only [State.framed, hpos, hp, hs]) hpayload hcrc
  · exact .of_none (State.framed_none (hpos.trans (hi.pos_eq_zero hs)) (.inl hp))

/-- R86: a stored byte lengthens the frame's part of the buffer by it, and is folded into the register. -/
theorem State.FrameInv.stores (h : s.FrameInv) {b : Byte} (h3 : 3 ≤ s.pos) (h130 : s.pos ≤ 130)
    (hpos : t.pos = s.pos + 1) (hpayload : t.payload = s.payload.write (payloadIndex s.pos) b)
    (hcrc : t.crc = crcByte s.crc b) : t.FrameInv := by
  have hnat : t.pos.toNat = s.pos.toNat + 1 := by rw [hpos]; bv_omega
  have hle : 3 ≤ s.pos.toNat ∧ s.pos.toNat ≤ 130 := ⟨h3, h130⟩
  have hs : s.framed = some (payloadIndex s.pos) := by
    rw [State.framed_inside (by bv_omega), payloadIndex, Nat.min_eq_left (by simp only [blockSize]; omega)]
  have ht : t.framed = some (payloadIndex s.pos + 1) := by
    rw [State.framed_inside (by bv_omega), payloadIndex, hnat, Nat.min_eq_left (by simp only [blockSize]; omega)]
    congr 1; omega
  obtain ⟨p, hp, hc⟩ := h _ hs
  refine .of_some (p := p ++ [b]) ht ?_ ?_
  · rw [hpayload]; exact Memory.slice_write _ _ _ _ hp
  · rw [hcrc, hc, crc16_append_singleton]

theorem StepCase.keeps_frameInv (h : StepCase s t) (hi : s.CtlInv) (hf : s.FrameInv) : t.FrameInv := by
  cases h with
  | noMove => exact hf
  | recv _ _ _ _ _ ht => exact (execRecv_inv ht).frame
  | hsOpen _ hp | hsWait _ hp => exact hf.of_turn hi hp rfl rfl rfl
  | hsWriteFailed | hsFail | rxErr | ackEot | nakNoise | canNoise | nakFrame | ackFrame | ackFrameFailed | canSink
  | responseFailed => exact hf.of_turn hi rfl rfl rfl rfl
  | rxSoh => exact .of_some (k := 0) (p := []) rfl rfl rfl
  | rxId _ _ _ _ _ hpos | rxIdc _ _ _ _ _ hpos =>
    have hs : s.framed = some 0 := by rw [State.framed_inside (by simp [hpos]), hpos]; rfl
    exact hf.of_eq hs.symm rfl rfl
  | rxData b _ _ _ _ h3 h130 => exact hf.stores h3 h130 rfl rfl rfl
  | rxCrch _ _ _ _ _ hpos | rxCrcl _ _ _ _ _ hpos =>
    have hs : s.framed = some blockSize := by rw [State.framed_inside (by simp [hpos]), hpos]; rfl
    exact hf.of_eq hs.symm rfl rfl
  | rxEot | rxNoise => exact .of_none (State.framed_none rfl (by simp))
  | errInc what hs =>
    have hpos : s.pos = 0 := hi.pos_eq_zero (by rcases hs with ⟨hs, -⟩ | ⟨hs, -⟩ <;> simp [hs.2])
    exact .of_none (State.framed_none hpos (by simp))
  | errChk what hs => exact .of_none (State.framed_none (hi.pos_eq_zero (by simp [hs.2])) (by simp))
  | valid _ hs | invalid hs | sink _ hs =>
    have hpos : s.pos = 0 := hi.pos_eq_zero (by simp [hs.2])
    have hframed : s.framed = some blockSize := State.framed_complete hpos (by simp [hs.2])
    refine hf.of_eq (Eq.trans ?_ hframed.symm) rfl rfl
    exact State.framed_complete hpos (by simp)

/-! ### The frame on its way to acceptance -/

/-- Where no frame is on its way to acceptance, nothing is asked of one. -/
theorem State.AcceptInv.of_ctl (hvalid : s.ctl ≠ .valid) (hsunk : ∀ n, s.ctl ≠ .sunk n) : s.AcceptInv :=
  ⟨fun h => absurd h hvalid, fun n h => absurd h (hsunk n)⟩

/-- R55: only VAL.FRAME's verdict makes a frame valid, and only RSP.SINK offers it. -/
theorem StepCase.keeps_acceptInv (h : StepCase s t) (ha : s.AcceptInv) : t.AcceptInv := by
  cases h with
  | noMove => exact ha
  | recv _ _ _ _ _ ht => exact (execRecv_inv ht).accept
  | valid p _ hv => exact ⟨fun _ => hv, nofun⟩
  | sink p hs hp =>
    obtain ⟨hvalid, -⟩ := ha
    refine ⟨nofun, fun n hn => ⟨hvalid hs.2, p, hp, ?_⟩⟩
    cases hn; rfl
  | hsOpen _ hp | hsWait _ hp => exact .of_ctl (by simp [hp]) (by simp [hp])
  | _ => exact .of_ctl (by simp) (by simp)

end

/-- Settles O53: of everything a step can do, part by part. -/
theorem everyStepKeepsTheInvariant : Obligations.EveryStepKeepsTheInvariant := by
  intro s t hi h
  have hcase : StepCase s t := step_cases hi.ctl h
  exact {
    mem := hcase.keeps_payload_wf hi.mem
    ctl := hcase.keeps_ctlInv hi.ctl
    pos := hcase.keeps_posInv hi.pos
    err := hcase.keeps_errInv hi.err
    retry := hcase.keeps_retryInv hi.retry
    frame := hcase.keeps_frameInv hi.ctl hi.frame
    accept := hcase.keeps_acceptInv hi.accept }

end Sys2Proof.Machine
end

section
/-! The validator's own statements (42_validator.md): the three tests and the verdict (R105 to R109), the sequence
register (R110, R111, R118), the error counter (R112 to R114), acceptance as a whole or not at all (R116), and the noise
ceiling. -/

namespace Sys2Proof.Machine

/-! ### The tests and the verdict -/

/-- Settles O21: both are due at `EvFrame`; the complement test in numbers. -/
theorem valSeqAndValCmpYieldTheirTests : Obligations.ValSeqAndValCmpYieldTheirTests := by
  intro s hc hp
  rw [← s.cmpOk_eq]
  exact ⟨whenDue_pos ⟨hc, hp⟩, whenDue_pos ⟨hc, hp⟩⟩

/-- Under the invariant a completed frame's payload is in the buffer and the register is its CRC (R86). -/
theorem State.Inv.crc_of_evFrame {s : State} (hi : s.Inv) (hp : s.ctl = .evFrame) :
    ∃ p, s.block = some p ∧ s.crc = crc16 p := by
  have hpos : s.pos = 0 := hi.ctl.pos_eq_zero (by simp [hp])
  exact hi.frame blockSize (State.framed_complete hpos (.inl hp))

theorem execValCrc_due {s : State} (hs : s.stands .evFrame) :
    execValCrc s = .next { s with out := some (.crcOk (decide (s.crc = word s.crcHi s.crcLo))) } :=
  whenDue_pos hs

/-- Settles O22: the register form is VAL.CRC's own; under the invariant the register is the CRC of the buffer. -/
theorem valCrcComparesTransmittedCrc : Obligations.ValCrcComparesTransmittedCrc := by
  refine ⟨fun s hc hp => execValCrc_due ⟨hc, hp⟩, fun s hi hc hp => ?_⟩
  obtain ⟨p, hblock, hcrc⟩ := hi.crc_of_evFrame hp
  refine ⟨p, hblock, ?_⟩
  rw [← hcrc]
  exact execValCrc_due ⟨hc, hp⟩

/-- The cause bits in numbers (R108). -/
theorem State.causeBits_eq (s : State) : s.causeBits = ⟨decide (s.id ≠ s.expectedId),
    decide ((s.id.toNat + s.idc.toNat) % 256 ≠ 255), decide (s.crc ≠ word s.crcHi s.crcLo)⟩ := by
  have hseq : s.seqOk = decide (s.id = s.expectedId) := rfl
  have hcrc : s.crcOk = decide (s.crc = word s.crcHi s.crcLo) := rfl
  simp only [State.causeBits, hseq, s.cmpOk_eq, hcrc, decide_not]

/-- Settles O24: the verdict as one decision, and its cause bits. -/
theorem valFrameJudgesTheFrame : Obligations.ValFrameJudgesTheFrame := by
  refine ⟨fun s h => whenDue_neg h, fun s p hc hp hblock => ?_⟩
  show execValFrame s = _
  rw [execValFrame, whenDue_pos ⟨hc, hp⟩, hblock, s.frameValid_eq, s.causeBits_eq]
  simp only [decide_eq_true_eq]
  split <;> rfl

/-! ### The sequence register and the error counter -/

/-- Adding 1 to a byte, in numbers. -/
theorem byte_add_one_eq_ofNat (b : Byte) : b + 1 = BitVec.ofNat 8 ((b.toNat + 1) % 256) := by
  bv_omega

/-- Settles O25: each operation where it is due, and its refusal elsewhere. -/
theorem sequenceRegisterOperations : Obligations.SequenceRegisterOperations := by
  refine ⟨fun _ h => whenDue_pos h, fun _ h => whenDue_neg h, fun s hc hp => ?_, fun _ h => whenDue_neg h⟩
  rw [← byte_add_one_eq_ofNat]
  exact whenDue_pos ⟨hc, hp⟩

/-- ERR.INC with something to count. -/
theorem execErrInc_of_toCount {s : State} {what : Counted} (h : s.toCount = some what) :
    execErrInc s = .next { s with errCount := s.errCount + 1, ctl := .counted what } := by
  rw [execErrInc, h]; rfl

/-- ERR.CHK just after an increment. -/
theorem execErrChk_of_stands {s : State} {what : Counted} (hs : s.stands (.counted what)) :
    execErrChk s = .next { s with ctl := .checked what s.overCeiling, out := some (.overCeiling s.overCeiling) } := by
  rw [execErrChk, (s.justCounted_iff what).2 hs]; rfl

/-- Settles O26: each operation where it is due, and its refusal elsewhere. -/
theorem errorCounterOperations : Obligations.ErrorCounterOperations := by
  refine ⟨fun s hc hp => ⟨execErrInc_of_toCount (s.toCount_noise ⟨hc, hp⟩), rfl⟩, fun s hf h => ?_,
    fun _ h => whenDue_pos h, fun _ hsunk hidle => whenDue_neg (not_or.2 ⟨hsunk, hidle⟩),
    fun s what hc hp => execErrChk_of_stands ⟨hc, hp⟩, fun s h => ?_⟩
  · show execErrInc s = _
    rw [execErrInc, s.toCount_none h hf]
  · have hnone : s.justCounted = none :=
      Option.eq_none_iff_forall_ne_some.2 fun what hj => h what ((s.justCounted_iff what).1 hj)
    show execErrChk s = _
    rw [execErrChk, hnone]

/-! ### Who moves `expected_id` (R118) -/

/-- In a run only SEQ.ADV and RSP.ACK_FRAME move `expected_id`, where the sink has taken a frame. -/
theorem exec_moves_expectedId {i : Instr} {s t : State} (h : exec i s = .next t) (hidle : s.cstate ≠ .idle)
    (hrecv : ∀ cfg, i ≠ .recv cfg) (hne : t.expectedId ≠ s.expectedId) :
    s.stands (.sunk blockSize) ∧ t.expectedId = s.expectedId + 1 := by
  cases exec_cases h with
  | seqAdv hd | ackFrame hd | ackFrameFailed hd => exact ⟨hd, rfl⟩
  | seqInit hd => exact absurd hd hidle
  | recv cfg => exact absurd rfl (hrecv cfg)
  | _ => exact absurd rfl hne

theorem decode_ne_recv (pos : Byte) (r : Answer) (cfg : Config) : decode pos r ≠ .recv cfg := by
  intro h
  cases r with
  | chanErr => cases h
  | byte b =>
    have hbyte : encode (.recv cfg) = [b] := h ▸ encode_decodeByte pos b
    cases hbyte

theorem State.dueHandshake_ne_recv (s : State) (cfg : Config) : s.dueHandshake ≠ .recv cfg := by
  unfold State.dueHandshake
  split_ifs <;> simp

theorem State.due_ne_recv (s : State) (cfg : Config) : s.due ≠ some (.recv cfg) := by
  unfold State.due
  cases s.ctl with
  | answered r => simpa using decode_ne_recv s.pos r cfg
  | checked what isOver => cases what <;> cases isOver <;> simp
  | invalid | sunk => dsimp only; split_ifs <;> simp
  | _ => simp

/-- Settles O48: where the step comes from, and who moves `expected_id` there; a call is begun outside a run only. -/
theorem expectedIdMovesOnlyOnAcceptance : Obligations.ExpectedIdMovesOnlyOnAcceptance := by
  intro s t h hne
  cases step_origin h with
  | noMove ht => exact absurd (congrArg State.expectedId ht) hne
  | call cfg rest ho hq h => cases h; exact .inr ⟨ho, by simp [hq], rfl⟩
  | handshake hc h =>
    obtain ⟨hs, ht⟩ := exec_moves_expectedId h (by simp [hc]) s.dueHandshake_ne_recv hne
    exact .inl ⟨hs.1, hs.2, ht⟩
  | due i hc hd h =>
    have hi : ∀ cfg, i ≠ .recv cfg := fun cfg hi => s.due_ne_recv cfg (hi ▸ hd)
    obtain ⟨hs, ht⟩ := exec_moves_expectedId h (by simp [hc]) hi hne
    exact .inl ⟨hs.1, hs.2, ht⟩
  | read r rest sup hturn hr h =>
    obtain ⟨hs, -⟩ := exec_moves_expectedId h (by simp [hturn.1]) (decode_ne_recv s.pos r) hne
    cases hs.2

/-! ### Acceptance as a whole or not at all (R116) -/

/-- Under the invariant the frame the sink has answered for is valid, and that call, of the buffer, is the last
event. -/
theorem State.Inv.sunk {s : State} {n : Nat} (hi : s.Inv) (hp : s.ctl = .sunk n) :
    s.frameValid = true ∧ ∃ p before, s.block = some p ∧ s.trace = .sink p n :: before := by
  obtain ⟨-, hsunk⟩ := hi.accept
  obtain ⟨hvalid, p, hblock, hlast⟩ := hsunk n hp
  obtain ⟨before, htrace⟩ := List.head?_eq_some_iff.1 hlast
  exact ⟨hvalid, p, before, hblock, htrace⟩

/-- RSP.ACK_FRAME moves both registers and passes ACK, whatever the channel answers. -/
theorem step_accepts {s : State} (hs : s.stands (.sunk blockSize)) :
    ∃ t ok more, step s = .next t ∧ t.expectedId = s.expectedId + 1 ∧ t.errCount = 0 ∧
      t.trace = more ++ .write ack ok :: s.trace := by
  rw [step_sunk hs.1 hs.2, if_pos rfl]
  have hexec : exec .rspAckFrame s = .next (s.seqAdv.errClr.send ack State.resume) := whenDue_pos hs
  rw [hexec]
  rcases s.seqAdv.errClr.send_cases ack State.resume with hsend | hsend <;> rw [hsend]
  · exact ⟨_, true, [], rfl, rfl, rfl, rfl⟩
  · exact ⟨_, false, [.raised _], rfl, rfl, rfl, rfl⟩

/-- RSP.CAN_SINK leaves both registers, passes CAN and no ACK, and the run fails, whatever the channel answers. -/
theorem step_gives_up {s : State} {n : Nat} (hs : s.stands (.sunk n)) (hn : n ≠ blockSize) :
    ∃ t ok more, step s = .next t ∧ t.expectedId = s.expectedId ∧ t.errCount = s.errCount ∧
      t.cstate.isFailed = true ∧ t.trace = more ++ .write can ok :: s.trace ∧ ∀ ok', Event.write ack ok' ∉ more := by
  rw [step_sunk hs.1 hs.2, if_neg hn]
  have hexec : exec (.rspCanSink n) s = .next (s.send can fun s1 => s1.raise (.sinkWriteFailure n)) :=
    whenDue_pos ⟨hs, hn⟩
  rw [hexec]
  rcases s.send_cases can fun s1 => s1.raise (.sinkWriteFailure n) with hsend | hsend <;> rw [hsend]
  · exact ⟨_, true, [.raised _], rfl, rfl, rfl, rfl, rfl, by simp⟩
  · exact ⟨_, false, [.raised _], rfl, rfl, rfl, rfl, rfl, by simp⟩

/-- Settles O49: what the invariant says of a frame the sink has answered for, and the two ways on. -/
theorem noPartialAcceptance : Obligations.NoPartialAcceptance := by
  intro s n hi hc hp
  obtain ⟨hvalid, p, before, hblock, htrace⟩ := hi.sunk hp
  refine ⟨hvalid, ?_⟩
  by_cases hn : n = 128
  · subst hn
    obtain ⟨t, ok, more, hstep, hid, herr, ht⟩ := step_accepts ⟨hc, hp⟩
    rw [htrace] at ht
    exact ⟨t, p, ok, before, hstep, hblock, htrace, by rw [if_pos rfl]; exact ⟨hid, herr, more, ht⟩⟩
  · obtain ⟨t, ok, more, hstep, hid, herr, hfail, ht, hno⟩ := step_gives_up ⟨hc, hp⟩ hn
    rw [htrace] at ht
    exact ⟨t, p, ok, before, hstep, hblock, htrace, by rw [if_neg hn]; exact ⟨hid, herr, hfail, more, ht, hno⟩⟩

/-! ### The noise ceiling (R114, R127, R128) -/

theorem step_takes_noise {s : State} {b : Byte} {rest : List Answer} (hh : s.hunting) (hsoh : b ≠ soh)
    (heot : b ≠ eot) (hrx : s.rx = .byte b :: rest) :
    step s = .next { s with rx := rest, head := b, pos := 0, ctl := .evNoise,
                            trace := .raised (.noiseByte b) :: .read (.byte b) :: s.trace } := by
  obtain ⟨hc, hturn, hpos⟩ := hh
  rw [step_read s (.byte b) rest s.supply hc hturn (State.nextAnswer_cons hrx), hpos, decode_head_noise hsoh heot]
  exact execRxNoise_due ⟨hc, rfl⟩ rfl hsoh heot

theorem step_counts_noise {s : State} (hs : s.stands .evNoise) :
    step s = .next { s with errCount := s.errCount + 1, ctl := .counted .noise } :=
  (step_at hs.1 hs.2 rfl).trans (execErrInc_of_toCount (s.toCount_noise hs))

theorem step_checks_count {s : State} {what : Counted} (hs : s.stands (.counted what)) :
    step s = .next { s with ctl := .checked what s.overCeiling, out := some (.overCeiling s.overCeiling) } :=
  (step_at hs.1 hs.2 rfl).trans (execErrChk_of_stands hs)

theorem step_naks_noise {s : State} (hs : s.stands (.checked .noise false)) (hw : s.writes.headD true = true) :
    step s = .next { s with ctl := .turn, writes := s.writes.tail, trace := .write nak true :: s.trace } := by
  have hexec : exec .rspNakNoise s = .next (s.send nak State.resume) := whenDue_pos hs
  rw [step_at hs.1 hs.2 rfl, hexec, s.send_ok nak State.resume hw]
  rfl

theorem step_cans_noise {s : State} (hs : s.stands (.checked .noise true)) (hw : s.writes.headD true = true) :
    step s = .next { s with cstate := .failed .tooManyErrors, ctl := .turn, writes := s.writes.tail,
                            trace := .raised (.tooManyErrors s.errCount) :: .write can true :: s.trace } := by
  have hexec : exec .rspCanNoise s = .next (s.send can fun s1 => s1.raise (.tooManyErrors s1.errCount)) :=
    whenDue_pos (.inl hs)
  rw [step_at hs.1 hs.2 rfl, hexec, s.send_ok can _ hw]
  rfl

/-- The state after a noise byte has been taken and counted and the count compared. -/
def State.noiseChecked (s : State) (b : Byte) (rest : List Answer) (isOver : Bool) : State :=
  { s with
    rx := rest, head := b, pos := 0, errCount := s.errCount + 1, ctl := .checked .noise isOver,
    out := some (.overCeiling isOver), trace := .raised (.noiseByte b) :: .read (.byte b) :: s.trace }

/-- From the head position three steps take a noise byte, count it and compare the count. -/
theorem run_checks_noise {s : State} {b : Byte} {rest : List Answer} (hh : s.hunting) (hsoh : b ≠ soh)
    (heot : b ≠ eot) (hrx : s.rx = .byte b :: rest) :
    core.run 3 s = .next (s.noiseChecked b rest (decide (s.errCount + 1 > s.cfg.errCeiling))) := by
  calc core.run 3 s
    _ = core.run 2 _ := core_run_succ 2 (step_takes_noise hh hsoh heot hrx)
    _ = core.run 1 _ := core_run_succ 1 (step_counts_noise ⟨hh.1, rfl⟩)
    _ = .next _ := core_run_succ 0 (step_checks_count ⟨hh.1, rfl⟩)

/-- What noise bytes leave, each counted and answered by one byte of `sent`, with `rest` left on the list. -/
structure State.NoiseAnswered (s t : State) (rest : List Answer) (sent : List Byte) : Prop where
  rx : t.rx = rest
  supply : t.supply = s.supply
  cfg : t.cfg = s.cfg
  writes : t.writes = s.writes.drop sent.length
  errCount : t.errCount = s.errCount + sent.length
  expectedId : t.expectedId = s.expectedId
  tx : t.tx = s.tx ++ sent
  sinkw : t.sinkw = s.sinkw

theorem State.NoiseAnswered.trans {s t u : State} {mid rest : List Answer} {xs ys : List Byte}
    (h : s.NoiseAnswered t mid xs) (h' : t.NoiseAnswered u rest ys) : s.NoiseAnswered u rest (xs ++ ys) where
  rx := h'.rx
  supply := h'.supply.trans h.supply
  cfg := h'.cfg.trans h.cfg
  writes := by rw [h'.writes, h.writes, List.drop_drop, List.length_append]
  errCount := by rw [h'.errCount, h.errCount, List.length_append, Nat.add_assoc]
  expectedId := h'.expectedId.trans h.expectedId
  tx := by rw [h'.tx, h.tx, List.append_assoc]
  sinkw := h'.sinkw.trans h.sinkw

section
variable {s : State} {b : Byte} {rest : List Answer}

/-- A noise byte that leaves the counter under the ceiling is answered with NAK, and the hunt goes on. -/
theorem run_naks_noise (hh : s.hunting) (hsoh : b ≠ soh) (heot : b ≠ eot) (hw : s.writes.headD true = true)
    (hle : s.errCount + 1 ≤ s.cfg.errCeiling) (hrx : s.rx = .byte b :: rest) :
    ∃ t, core.run 4 s = .next t ∧ t.hunting ∧ s.NoiseAnswered t rest [nak] := by
  have hover : decide (s.errCount + 1 > s.cfg.errCeiling) = false := decide_eq_false (Nat.not_lt.2 hle)
  have hrun := run_checks_noise hh hsoh heot hrx
  rw [hover] at hrun
  refine ⟨_, (core_run_add 3 1 hrun).trans (core_run_succ 0 (step_naks_noise ⟨hh.1, rfl⟩ hw)), ⟨hh.1, rfl, rfl⟩, ?_⟩
  constructor <;> simp [State.noiseChecked, State.tx, State.sinkw, List.filterMap_cons, Event.sent, Event.sunk]

/-- A noise byte that takes the counter over the ceiling is answered with CAN and ends the run. -/
theorem run_cans_noise (hh : s.hunting) (hsoh : b ≠ soh) (heot : b ≠ eot) (hw : s.writes.headD true = true)
    (hover : s.errCount = s.cfg.errCeiling) (hrx : s.rx = .byte b :: rest) :
    ∃ t, core.run 4 s = .next t ∧ t.cstate = .failed .tooManyErrors ∧ s.NoiseAnswered t rest [can] := by
  have hover : decide (s.errCount + 1 > s.cfg.errCeiling) = true := decide_eq_true (by omega)
  have hrun := run_checks_noise hh hsoh heot hrx
  rw [hover] at hrun
  refine ⟨_, (core_run_add 3 1 hrun).trans (core_run_succ 0 (step_cans_noise ⟨hh.1, rfl⟩ hw)), rfl, ?_⟩
  constructor <;> simp [State.noiseChecked, State.tx, State.sinkw, List.filterMap_cons, Event.sent, Event.sunk]

end

/-- The next `m + n` write answers are good exactly if the next `m` are and the `n` after them. -/
theorem good_writes_add {writes : List Bool} {m n : Nat} : (∀ ok ∈ writes.take (m + n), ok = true) ↔
    (∀ ok ∈ writes.take m, ok = true) ∧ ∀ ok ∈ (writes.drop m).take n, ok = true := by
  rw [List.take_add, List.forall_mem_append]

/-- A next write answer that is good where there is one is good: `ChanWrite` answers Ok when the script has run out. -/
theorem headD_of_good_writes {writes : List Bool} (h : ∀ ok ∈ writes.take 1, ok = true) : writes.headD true = true := by
  cases writes with
  | nil => rfl
  | cons w ws => simpa using h

/-- Noise bytes for which there is room under the ceiling are answered with NAK each. -/
theorem run_naks_noise_list (noise : List Byte) {s : State} {rest : List Answer} (hh : s.hunting)
    (hw : ∀ ok ∈ s.writes.take noise.length, ok = true) (hle : s.errCount + noise.length ≤ s.cfg.errCeiling)
    (hnoise : ∀ b ∈ noise, b ≠ soh ∧ b ≠ eot) (hrx : s.rx = noise.map .byte ++ rest) :
    ∃ t, core.run (4 * noise.length) s = .next t ∧ t.hunting ∧
      s.NoiseAnswered t rest (List.replicate noise.length nak) := by
  induction noise generalizing s with
  | nil => exact ⟨s, rfl, hh, by constructor <;> simp [hrx]⟩
  | cons b bs ih =>
    obtain ⟨⟨hsoh, heot⟩, hbs⟩ := List.forall_mem_cons.1 hnoise
    rw [List.length_cons] at hle hw
    obtain ⟨hw1, hws⟩ := good_writes_add.1 (Nat.add_comm bs.length 1 ▸ hw)
    obtain ⟨t, hrun, ht, hst⟩ := run_naks_noise hh hsoh heot (headD_of_good_writes hw1) (by omega) hrx
    obtain ⟨u, hrun', hu, htu⟩ := ih ht (by rw [hst.writes]; exact hws)
      (by rw [hst.errCount, hst.cfg, List.length_singleton]; omega) hbs hst.rx
    refine ⟨u, ?_, hu, hst.trans htu⟩
    rw [List.length_cons, Nat.mul_succ, Nat.add_comm, core_run_add 4 _ hrun, hrun']

/-- Settles O60: the bytes there is room for, and then the last. -/
theorem noiseOverTheCeilingEndsTheRun : Obligations.NoiseOverTheCeilingEndsTheRun := by
  intro s noise last rest hh hw hcount hnoise hrx
  obtain ⟨hnoise, hlast⟩ := List.forall_mem_append.1 hnoise
  obtain ⟨hsoh, heot⟩ := hlast last (by simp)
  obtain ⟨hw, hwlast⟩ := good_writes_add.1 hw
  obtain ⟨t, hrun, ht, hst⟩ := run_naks_noise_list noise (rest := .byte last :: rest) hh hw hcount.le hnoise
    (by simpa using hrx)
  have hw' : t.writes.headD true = true := headD_of_good_writes (by rwa [hst.writes, List.length_replicate])
  have hcount' : t.errCount = t.cfg.errCeiling := by rw [hst.errCount, hst.cfg, List.length_replicate, hcount]
  obtain ⟨u, hrun', hu, htu⟩ := run_cans_noise ht hsoh heot hw' hcount' hst.rx
  have hsu := hst.trans htu
  have hlen : (List.replicate noise.length nak ++ [can]).length = noise.length + 1 := by simp
  refine ⟨u, ?_, hu, hsu.rx, hsu.supply, ?_, ?_, hsu.expectedId, ?_, hsu.sinkw⟩
  · rw [Nat.mul_succ, core_run_add _ 4 hrun, hrun']
  · rw [hsu.writes, hlen]
  · rw [hsu.errCount, hlen, ← Nat.add_assoc, hcount]
  · rw [hsu.tx, List.append_assoc]

end Sys2Proof.Machine
end

section
/-! The controller's own statements about one operation and one step (43_receive_controller.md): each operation where it is
due (R120 to R133), the failed write (R133), the states outside a run and the blocked read (R134 to R137), and the
transition table of `cstate` (R135). -/

namespace Sys2Proof.Machine

/-! ### What more events show of a run (R75) -/

section
variable {s t : State} {new : List Event}

theorem State.tx_of_trace (h : t.trace = new ++ s.trace) : t.tx = s.tx ++ new.reverse.filterMap Event.sent := by
  simp [State.tx, h]

theorem State.sinkw_of_trace (h : t.trace = new ++ s.trace) : t.sinkw = s.sinkw ++ new.reverse.filterMap Event.sunk := by
  simp [State.sinkw, h]

theorem State.delays_of_trace (h : t.trace = new ++ s.trace) : t.delays = s.delays + new.count .delay := by
  simp [State.delays, h, Nat.add_comm]

end

/-! ### Each operation where it is due -/

/-- An operation that sends one byte from the state `u`, where it is due. -/
theorem whenDue_send {due : Prop} [Decidable due] {op : String} {u : State} {b : Byte} {k : State → State} (h : due) :
    whenDue due op (.next (u.send b k)) = .next (if u.writes.headD true = true then
      k { u with writes := u.writes.tail, trace := .write b true :: u.trace } else u.writeFails b) := by
  rw [whenDue_pos h, State.send_eq]

/-- The poll in one equation: the packet loop, or a delay. -/
theorem State.poll_eq (s : State) : s.poll = if s.avail.headD true = true then
      { s with cstate := .receiving, avail := s.avail.tail, trace := .avail true :: s.trace }
    else { s with avail := s.avail.tail, trace := .delay :: .avail false :: s.trace } := by
  split
  · exact s.poll_true ‹_›
  · exact s.poll_false (Bool.eq_false_iff.2 ‹_›)

/-- Settles O28: RECV acts in every state. -/
theorem recvResetsTheSession : Obligations.RecvResetsTheSession := fun _ _ =>
  ⟨_, rfl, rfl, rfl, rfl, rfl, rfl, rfl, rfl, rfl, rfl, rfl, rfl, rfl, rfl, rfl⟩

/-- Settles O30: one `'C'` and then the poll, and HS.FAIL where no attempt is left. -/
theorem handshakeOperations : Obligations.HandshakeOperations := by
  refine ⟨fun s hc hp hr => ?_, fun s hc hp hr => ?_⟩
  · show execHsTry s = _
    rw [execHsTry, whenDue_send ⟨hc, hp, hr⟩, State.poll_eq]
  · have hexec : exec .hsFail s = .next (s.raise .handshakeTimeout) := whenDue_pos ⟨hc, hp, hr⟩
    rw [hexec, s.raise_terminal _ _ rfl, ← hp]
    rfl

/-- Settles O31: one ACK, and the run is done. -/
theorem ackEotFinishes : Obligations.AckEotFinishes := fun _ hc hp => whenDue_send ⟨hc, hp⟩

/-- Settles O32: a NAK, or a CAN and the end of the run. -/
theorem noiseIsAnswered : Obligations.NoiseIsAnswered :=
  ⟨fun _ hc hp => whenDue_send ⟨hc, hp⟩, fun _ hc hp => whenDue_send (.inl ⟨hc, hp⟩)⟩

/-- Settles O33: the sink is handed the buffer. -/
theorem sinkGetsThePayload : Obligations.SinkGetsThePayload := by
  intro s p hc hp hblock
  show execRspSink s = _
  rw [execRspSink, whenDue_pos ⟨hc, hp⟩, hblock]
  rfl

/-- Settles O34: the registers move before the ACK is sent; no register moves with the CAN. -/
theorem acceptedOrSinkFailed : Obligations.AcceptedOrSinkFailed := by
  refine ⟨fun s hc hp => ?_, fun s n hn hc hp => whenDue_send ⟨⟨hc, hp⟩, hn⟩⟩
  rw [← byte_add_one_eq_ofNat]
  exact whenDue_send (u := s.seqAdv.errClr) ⟨hc, hp⟩

/-- Settles O35: one NAK. -/
theorem nakFrameGoesOn : Obligations.NakFrameGoesOn := fun _ hc hp hf => whenDue_send (.inl ⟨⟨hc, hp⟩, hf⟩)

/-- Settles O36: FAIL.CHAN is due after a failed read and after a failed write. -/
theorem failChanEndsTheRun : Obligations.FailChanEndsTheRun := fun _ hrun =>
  ⟨fun hp => whenDue_pos ⟨hrun, hp⟩, fun hp => whenDue_pos ⟨hrun, hp⟩⟩

/-! ### A failed write (R133) -/

/-- The next write answer is an error exactly if the script begins with one. -/
theorem headD_eq_false_iff {writes : List Bool} : writes.headD true = false ↔ writes.head? = some false := by
  cases writes <;> simp

/-- A failed write transmits nothing. -/
theorem State.writeFails_tx (s : State) (b : Byte) : (s.writeFails b).tx = s.tx :=
  (State.tx_of_trace (new := [.raised _, .write b false]) rfl).trans (List.append_nil _)

/-- Where an operation that sends is given a failed write, it leaves the state of a failed write; HS.TRY and
RSP.ACK_FRAME have moved their counters before. -/
theorem exec_with_failed_write {i : Instr} {s t : State} {b : Byte} (h : exec i s = .next t) (hb : sends i = some b)
    (hw : s.writes.headD true = false) :
    ∃ expectedId errCount retryCount, t =
      ({ s with expectedId := expectedId, errCount := errCount, retryCount := retryCount } : State).writeFails b := by
  cases exec_cases h with
  | hsTryFailed | ackEotFailed | nakNoiseFailed | canNoiseFailed | ackFrameFailed | canSinkFailed | nakFrameFailed =>
    cases hb; exact ⟨_, _, _, rfl⟩
  | hsTryOpen _ hok | hsTryWait _ hok | ackEot _ hok | nakNoise _ hok | canNoise _ hok | ackFrame _ hok
  | canSink _ _ hok | nakFrame _ hok => rw [hok] at hw; cases hw
  | _ => cases hb

/-- Settles O38: every step is defined, and the operation that is due there leaves the state of a failed write. -/
theorem failedWriteEndsTheRun : Obligations.FailedWriteEndsTheRun := by
  intro s i b hi hfetch hb hw
  obtain ⟨t, ht⟩ := everyStepIsDefined s hi
  have hexec : exec i s = .next t := by rwa [step, hfetch] at ht
  obtain ⟨e, c, r, rfl⟩ := exec_with_failed_write hexec hb (headD_eq_false_iff.2 hw)
  exact ⟨_, ht, rfl, rfl, rfl, State.writeFails_tx _ b, rfl, rfl, rfl, rfl, rfl, rfl, rfl, rfl, rfl⟩

/-! ### Outside a run, and the blocked read (R134 to R137) -/

theorem State.terminal_iff (s : State) : s.terminal = true ↔ s.cstate = .done ∨ ∃ c, s.cstate = .failed c := by
  unfold State.terminal
  cases s.cstate <;> simp

/-- A terminal state is none of the other three. -/
theorem State.not_active_of_terminal {s : State} (h : s.terminal = true) :
    s.cstate ≠ .idle ∧ s.cstate ≠ .negotiating ∧ s.cstate ≠ .receiving := by
  rcases s.terminal_iff.1 h with hc | ⟨c, hc⟩ <;> simp [hc]

/-- Settles O43: every trigger names one of the three states of `cstate` that are not terminal. -/
theorem terminalStatesAbsorb : Obligations.TerminalStatesAbsorb := by
  intro s i hterm hrecv hbuf
  obtain ⟨hidle, hneg, hrec⟩ := State.not_active_of_terminal hterm
  have hstands (p : Point) : ¬ s.stands p := fun hs => hrec hs.1
  cases i with
  | crcBuf buf => exact absurd rfl (hbuf buf)
  | recv cfg => exact absurd rfl (hrecv cfg)
  | errInc =>
    have hnone : s.toCount = none := by rw [State.toCount, if_neg (hstands _), if_neg fun h => hstands _ h.1]
    exact ⟨_, by rw [exec, execErrInc, hnone]⟩
  | errChk =>
    have hnone : s.justCounted = none :=
      Option.eq_none_iff_forall_ne_some.2 fun what hj => hstands _ ((s.justCounted_iff what).1 hj)
    exact ⟨_, by rw [exec, execErrChk, hnone]⟩
  | _ => exact ⟨_, whenDue_neg (by simp [hidle, hneg, hrec])⟩

/-- Settles O42: the fetch finds nothing, and so after every number of steps. -/
theorem blockMakesNoMove : Obligations.BlockMakesNoMove := by
  intro s h
  have hstep : step s = .next s := by
    rcases h with ⟨hc, hp, hrx, hsup⟩ | ⟨ho, hcalls⟩
    · have hd : s.due = none := by rw [State.due, hp]
      rw [step, s.fetch_top hc hd, State.chanRead, State.nextAnswer_none.2 ⟨hrx, hsup⟩]
      rfl
    · rw [step, s.fetch_outside ho, hcalls]
  refine ⟨hstep, fun k => ?_⟩
  induction k with
  | zero => rfl
  | succ k ih => rw [core_run_succ k hstep, ih]

/-- Settles O56: the result read from `cstate`. -/
theorem resultOfARun : Obligations.ResultOfARun := by
  intro s
  refine ⟨?_, fun c => ?_, ?_, rfl, rfl, rfl, rfl, rfl⟩ <;> unfold State.result
  · cases s.cstate <;> simp
  · cases s.cstate <;> simp
  · unfold State.terminal
    cases s.cstate <;> simp

/-! ### The transition table of `cstate` (R135) -/

/-- Settles O45: each case of a step that changes `cstate` is a row. -/
theorem cStateFollowsTransitionTable : Obligations.CStateFollowsTransitionTable := by
  intro s t hi h hne
  cases step_cases hi h with
  | recv cfg rest t ho hq ht => cases ht; exact .inl ⟨ho, by simp [hq], rfl⟩
  | hsOpen hc hp hr hw ha => exact .inr (.inl ⟨hc, hr, ha, rfl⟩)
  | hsFail hc hp hr => simp [hc, hr]
  | hsWriteFailed hc hp hr hw => simp [hc, headD_eq_false_iff.1 hw]
  | rxErr rest sup hs hr => simp [hs.1, hs.2, hr]
  | ackEot hs hw => simp [hs.1, hs.2]
  | canNoise what hs hw => cases what <;> simp [hs.1, hs.2]
  | canSink n hs hn hw => simp [hs.1, hs.2, hn]
  | ackFrameFailed hs hw => simp [hs.1, headD_eq_false_iff.1 hw]
  | responseFailed i b hc hd hb hi hw => simp [hc, headD_eq_false_iff.1 hw]
  | _ => exact absurd rfl hne

end Sys2Proof.Machine
end

section
/-! The controller's own statements about runs (43_receive_controller.md): the handshake that no poll ends (R121, R122), a
good frame (R129, R130), and bad frames, one and without end (R132, R137). -/

namespace Sys2Proof.Machine

/-! ### The handshake that no poll ends (R121, R122) -/

/-- The state after an attempt whose `'C'` is written and whose poll answers false. -/
def State.waited (s : State) : State :=
  { s with retryCount := s.retryCount + 1, writes := s.writes.tail, avail := s.avail.tail,
           trace := .delay :: .avail false :: .write crcReq true :: s.trace }

section
variable {s : State}

theorem step_waits (hc : s.cstate = .negotiating) (hp : s.ctl = .turn) (hr : s.retryCount < s.cfg.handshakeRetries)
    (hw : s.writes.headD true = true) (ha : s.avail.headD true = false) : step s = .next s.waited := by
  rw [step_handshake hc (by simp [hp]), if_neg hr.ne, handshakeOperations.1 s hc hp hr, if_pos hw,
    if_neg (Bool.eq_false_iff.1 ha)]
  rfl

/-- With no attempt left the handshake gives up. -/
theorem step_times_out (hc : s.cstate = .negotiating) (hp : s.ctl = .turn) (hr : s.retryCount = s.cfg.handshakeRetries) :
    step s = .next { s with cstate := .failed .handshakeTimeout, trace := .raised .handshakeTimeout :: s.trace } := by
  rw [step_handshake hc (by simp [hp]), if_pos hr, handshakeOperations.2 s hc hp hr]

theorem State.waited_tx : s.waited.tx = s.tx ++ [crcReq] :=
  State.tx_of_trace (new := [.delay, .avail false, .write crcReq true]) rfl

theorem State.waited_sinkw : s.waited.sinkw = s.sinkw :=
  (State.sinkw_of_trace (new := [.delay, .avail false, .write crcReq true]) rfl).trans (List.append_nil _)

theorem State.waited_delays : s.waited.delays = s.delays + 1 :=
  State.delays_of_trace (new := [.delay, .avail false, .write crcReq true]) rfl

end

/-- Settles O59, by induction on the attempts left: each waits, and HS.FAIL follows the last. -/
theorem silentHandshakeTimesOut : Obligations.SilentHandshakeTimesOut := by
  intro s n more
  induction n generalizing s with
  | zero =>
    intro hc hp hr ha _
    refine ⟨_, core_run_succ 0 (step_times_out hc hp hr), rfl, hr, rfl, rfl, ha, rfl, ?_, ?_, ?_⟩
    · exact State.tx_of_trace (new := [.raised .handshakeTimeout]) rfl
    · exact State.delays_of_trace (new := [.raised .handshakeTimeout]) rfl
    · exact (State.sinkw_of_trace (new := [.raised .handshakeTimeout]) rfl).trans (List.append_nil _)
  | succ n ih =>
    intro hc hp hr ha hw
    obtain ⟨hw1, hws⟩ := good_writes_add.1 (Nat.add_comm n 1 ▸ hw)
    have hfalse : s.avail.headD true = false := by simp [ha, List.replicate_succ]
    have hstep : step s = .next s.waited := step_waits hc hp (by omega) (headD_of_good_writes hw1) hfalse
    have hretry : s.waited.retryCount + n = s.waited.cfg.handshakeRetries := by
      show s.retryCount + 1 + n = s.cfg.handshakeRetries
      omega
    have havail : s.waited.avail = List.replicate n false ++ more := by simp [State.waited, ha, List.replicate_succ]
    have hdrop : s.waited.writes = s.writes.drop 1 := List.drop_one.symm
    obtain ⟨t, hrun, hfail, hretries, hrx, hsup, hmore, hwrites, htx, hdelays, hsinkw⟩ :=
      ih s.waited hc hp hretry havail (hdrop ▸ hws)
    refine ⟨t, (core_run_succ (n + 1) hstep).trans hrun, hfail, hretries, hrx, hsup, hmore, ?_, ?_, ?_, ?_⟩
    · rw [hwrites, hdrop, List.drop_drop, Nat.add_comm]
    · rw [htx, State.waited_tx, List.append_assoc]; rfl
    · rw [hdelays, State.waited_delays]; omega
    · rw [hsinkw, State.waited_sinkw]

/-! ### What the reads of a frame leave, and the verdict on it -/

section
variable {s : State} {id idc crcHi crcLo : Byte} {p : List Byte} {rest : List Answer}

theorem State.afterReads_tx (bs : List Byte) : (s.afterReads bs rest).tx = s.tx := by
  simp [State.tx, State.afterReads, Function.comp_def, Event.sent]

theorem State.afterReads_sinkw (bs : List Byte) : (s.afterReads bs rest).sinkw = s.sinkw := by
  simp [State.sinkw, State.afterReads, Function.comp_def, Event.sunk]

theorem State.afterReads_reads (bs : List Byte) : (s.afterReads bs rest).reads = s.reads + bs.length := by
  simp [State.reads, State.afterReads, List.filter_map, Function.comp_def, Nat.add_comm]

theorem State.assembled_stands (hc : s.cstate = .receiving) :
    (s.assembled id idc p crcHi crcLo rest).stands .evFrame := ⟨hc, rfl⟩

theorem State.assembled_tx : (s.assembled id idc p crcHi crcLo rest).tx = s.tx :=
  State.afterReads_tx (rest := rest) _

theorem State.assembled_sinkw : (s.assembled id idc p crcHi crcLo rest).sinkw = s.sinkw :=
  State.afterReads_sinkw (rest := rest) _

/-- A frame is 133 reads (R61). -/
theorem State.assembled_reads (hp : p.length = 128) :
    (s.assembled id idc p crcHi crcLo rest).reads = s.reads + 133 := by
  have hlen : (encodeUnit (.frame id idc p crcHi crcLo)).length = 133 := by simp [encodeUnit, hp]
  rw [← hlen]
  exact State.afterReads_reads (rest := rest) _

theorem State.assembled_block (hp : p.length = 128) : (s.assembled id idc p crcHi crcLo rest).block = some p := by
  have h := Memory.slice_writeFrom_zero s.payload p
  rwa [hp] at h

/-- The verdict on a frame in the terms of its bytes. -/
theorem State.assembled_frameValid : (s.assembled id idc p crcHi crcLo rest).frameValid =
    decide (id = s.expectedId ∧ (id.toNat + idc.toNat) % 256 = 255 ∧ crc16 p = word crcHi crcLo) :=
  State.frameValid_eq _

end

/-! ### A good frame (R129, R130) -/

section
variable {s : State} {p : List Byte}

theorem execValFrame_valid (hs : s.stands .evFrame) (hv : s.frameValid = true) (hp : s.block = some p) :
    execValFrame s = .next { s with ctl := .valid, out := some (.valid p) } := by
  rw [execValFrame, whenDue_pos hs, if_pos hv, hp]
  rfl

theorem step_validates (hs : s.stands .evFrame) (hv : s.frameValid = true) (hp : s.block = some p) :
    step s = .next { s with ctl := .valid, out := some (.valid p) } :=
  (step_at hs.1 hs.2 rfl).trans (execValFrame_valid hs hv hp)

theorem step_sinks {n : Nat} (hs : s.stands .valid) (hp : s.block = some p) (hn : s.sinks.headD 128 = n) :
    step s = .next { s with ctl := .sunk n, out := some (.count n), sinks := s.sinks.tail,
                            trace := .sink p n :: s.trace } := by
  subst hn
  exact (step_at hs.1 hs.2 rfl).trans (sinkGetsThePayload s p hs.1 hs.2 hp)

theorem step_acks_frame (hs : s.stands (.sunk 128)) (hw : s.writes.headD true = true) :
    step s = .next { s with expectedId := s.expectedId + 1, errCount := 0, ctl := .turn, writes := s.writes.tail,
                            trace := .write ack true :: s.trace } := by
  rw [step_sunk hs.1 hs.2, if_pos rfl, acceptedOrSinkFailed.1 s hs.1 hs.2, if_pos hw, ← byte_add_one_eq_ofNat]

/-- The state after a valid frame at `EvFrame` has been handed to a sink that takes it, and acknowledged. -/
def State.accepted (s : State) (p : List Byte) : State :=
  { s with
    expectedId := s.expectedId + 1, errCount := 0, ctl := .turn, out := some (.count 128), sinks := s.sinks.tail,
    writes := s.writes.tail, trace := .write ack true :: .sink p 128 :: s.trace }

/-- Three steps answer a valid frame. -/
theorem run_accepts (hs : s.stands .evFrame) (hv : s.frameValid = true) (hp : s.block = some p)
    (hsink : s.sinks.headD 128 = 128) (hw : s.writes.headD true = true) : core.run 3 s = .next (s.accepted p) := by
  calc core.run 3 s
    _ = core.run 2 _ := core_run_succ 2 (step_validates hs hv hp)
    _ = core.run 1 _ := core_run_succ 1 (step_sinks ⟨hs.1, rfl⟩ hp hsink)
    _ = .next _ := core_run_succ 0 (step_acks_frame ⟨hs.1, rfl⟩ hw)

end

/-- A correct sender's frame with the id that is expected passes the three tests (R76). -/
theorem State.assembled_goodFrame_valid (s : State) (p : List Byte) (rest : List Answer) :
    (s.assembled s.expectedId (255 - s.expectedId) p (hiByte (crc16 p)) (loByte (crc16 p)) rest).frameValid = true := by
  rw [State.assembled_frameValid, decide_eq_true_iff, byte_sum_mod_eq_255_iff, byte_sum_eq_255_iff_sub]
  exact ⟨rfl, rfl, (word_hiByte_loByte (crc16 p)).symm⟩

/-- Settles O57: 133 steps take the frame, and three answer it. -/
theorem goodFrameIsAccepted : Obligations.GoodFrameIsAccepted := by
  intro s p rest hh hp hrx hsink hw
  have hframe := run_takes_frame hh hp hrx
  have hanswer := run_accepts (State.assembled_stands hh.1) (s.assembled_goodFrame_valid p rest) (State.assembled_block hp)
    hsink hw
  refine ⟨_, (core_run_add 133 3 hframe).trans hanswer, ⟨hh.1, rfl, rfl⟩, rfl, rfl, rfl, rfl, ?_, ?_⟩
  · exact (State.tx_of_trace (new := [.write ack true, .sink p 128]) rfl).trans (congrArg (· ++ [ack]) State.assembled_tx)
  · exact (State.sinkw_of_trace (new := [.write ack true, .sink p 128]) rfl).trans
      (congrArg (· ++ [p]) State.assembled_sinkw)

/-! ### Runs that do not leave the packet loop -/

/-- The packet loop is not left within `n` steps: after every number of steps below `n` a run is in it. -/
def State.loopsFor (s : State) (n : Nat) : Prop := ∀ k < n, ∃ u, core.run k s = .next u ∧ u.cstate = .receiving

theorem State.loopsFor_zero (s : State) : s.loopsFor 0 := fun _ hk => absurd hk (Nat.not_lt_zero _)

theorem State.loopsFor_succ {s t : State} {n : Nat} (hc : s.cstate = .receiving) (hstep : step s = .next t)
    (ht : t.loopsFor n) : s.loopsFor (n + 1) := by
  intro k hk
  cases k with
  | zero => exact ⟨s, rfl, hc⟩
  | succ k =>
    rw [core_run_succ k hstep]
    exact ht k (Nat.lt_of_succ_lt_succ hk)

theorem State.loopsFor_add {s t : State} {m n : Nat} (hs : s.loopsFor m) (hrun : core.run m s = .next t)
    (ht : t.loopsFor n) : s.loopsFor (m + n) := by
  intro k hk
  by_cases hlt : k < m
  · exact hs k hlt
  · obtain ⟨u, hu, hc⟩ := ht (k - m) (by omega)
    refine ⟨u, ?_, hc⟩
    rw [← hu, ← core_run_add m (k - m) hrun, Nat.add_sub_cancel' (Nat.not_lt.1 hlt)]

/-- A step takes one answer at most, and only in the packet loop (R54). -/
theorem step_reads {s t : State} (h : step s = .next t) :
    t.reads = s.reads ∨ (s.cstate = .receiving ∧ t.reads = s.reads + 1) := by
  rcases onlyTheTopOfATurnReads s t h with ⟨-, -, hr⟩ | ⟨hc, -, hr, -⟩
  · exact .inl hr
  · exact .inr ⟨hc, hr⟩

/-- The steps of a run that answers a next state. -/
theorem core_run_succ_inv {n : Nat} {s t : State} (h : core.run (n + 1) s = .next t) :
    ∃ u, step s = .next u ∧ core.run n u = .next t := by
  cases hs : step s with
  | next u => exact ⟨u, rfl, (core_run_succ n hs).symm.trans h⟩
  | fault r => simp only [Host.Core.run, show core.step s = _ from hs] at h; cases h
  | refused r => simp only [Host.Core.run, show core.step s = _ from hs] at h; cases h

theorem run_reads_le {n : Nat} {s t : State} (h : core.run n s = .next t) : t.reads ≤ s.reads + n := by
  induction n generalizing s with
  | zero => cases h; exact Nat.le_refl _
  | succ n ih =>
    obtain ⟨u, hstep, hrun⟩ := core_run_succ_inv h
    have hle := ih hrun
    rcases step_reads hstep with hr | ⟨-, hr⟩ <;> omega

/-- A run that takes an answer at every step does not leave the packet loop. -/
theorem State.loopsFor_of_reads {n : Nat} {s t : State} (h : core.run n s = .next t) (hreads : t.reads = s.reads + n) :
    s.loopsFor n := by
  induction n generalizing s with
  | zero => exact s.loopsFor_zero
  | succ n ih =>
    obtain ⟨u, hstep, hrun⟩ := core_run_succ_inv h
    have hle := run_reads_le hrun
    rcases step_reads hstep with hr | ⟨hc, hr⟩
    · omega
    · exact State.loopsFor_succ hc hstep (ih hrun (by omega))

/-! ### A bad frame (R132) -/

/-- A frame of these bytes fails one of the three tests (R105 to R107). -/
def State.failsTest (s : State) (id idc crcHi crcLo : Byte) (p : List Byte) : Prop :=
  id ≠ s.expectedId ∨ (id.toNat + idc.toNat) % 256 ≠ 255 ∨ crc16 p ≠ word crcHi crcLo

/-- What `n` refused frames leave, with `rest` left on the list: a NAK each, and nothing moved. -/
structure State.FramesRefused (s t : State) (rest : List Answer) (n : Nat) : Prop where
  hunting : t.hunting
  rx : t.rx = rest
  supply : t.supply = s.supply
  cfg : t.cfg = s.cfg
  writes : t.writes = s.writes.drop n
  expectedId : t.expectedId = s.expectedId
  errCount : t.errCount = s.errCount
  tx : t.tx = s.tx ++ List.replicate n nak
  sinkw : t.sinkw = s.sinkw

theorem State.FramesRefused.trans {s t u : State} {mid rest : List Answer} {m n : Nat}
    (h : s.FramesRefused t mid m) (h' : t.FramesRefused u rest n) : s.FramesRefused u rest (m + n) where
  hunting := h'.hunting
  rx := h'.rx
  supply := h'.supply.trans h.supply
  cfg := h'.cfg.trans h.cfg
  writes := by rw [h'.writes, h.writes, List.drop_drop]
  expectedId := h'.expectedId.trans h.expectedId
  errCount := h'.errCount.trans h.errCount
  tx := by rw [h'.tx, h.tx, List.append_assoc, List.replicate_append_replicate]
  sinkw := h'.sinkw.trans h.sinkw

/-- The state after VAL.FRAME has refused a frame. -/
def State.invalidated (s : State) : State :=
  { s with ctl := .invalid, out := some (.invalid s.causeBits), trace := .raised (.invalidFrame s.causeBits) :: s.trace }

/-- The state after a refused frame at `EvFrame` has been answered with NAK. -/
def State.refused (s : State) : State :=
  { s.invalidated with ctl := .turn, writes := s.writes.tail, trace := .write nak true :: s.invalidated.trace }

section
variable {s : State}

theorem execValFrame_invalid (hs : s.stands .evFrame) (hv : s.frameValid = false) :
    execValFrame s = .next s.invalidated := by
  rw [execValFrame, whenDue_pos hs, if_neg (Bool.eq_false_iff.1 hv)]
  rfl

theorem step_invalidates (hs : s.stands .evFrame) (hv : s.frameValid = false) : step s = .next s.invalidated :=
  (step_at hs.1 hs.2 rfl).trans (execValFrame_invalid hs hv)

theorem step_naks_frame (hs : s.stands .invalid) (hf : s.cfg.countInvalidFrames = false)
    (hw : s.writes.headD true = true) :
    step s = .next { s with ctl := .turn, writes := s.writes.tail, trace := .write nak true :: s.trace } := by
  rw [step_invalid hs.1 hs.2, if_neg (Bool.eq_false_iff.1 hf), nakFrameGoesOn s hs.1 hs.2 hf, if_pos hw]

/-- Two steps of the packet loop answer a frame that fails a test. -/
theorem run_refuses (hs : s.stands .evFrame) (hv : s.frameValid = false) (hf : s.cfg.countInvalidFrames = false)
    (hw : s.writes.headD true = true) : core.run 2 s = .next s.refused ∧ s.loopsFor 2 := by
  have hinvalid := step_invalidates hs hv
  have hnak : step s.invalidated = .next s.refused := step_naks_frame ⟨hs.1, rfl⟩ hf hw
  exact ⟨(core_run_succ 1 hinvalid).trans (core_run_succ 0 hnak),
    State.loopsFor_succ hs.1 hinvalid (State.loopsFor_succ hs.1 hnak (State.loopsFor_zero _))⟩

end

section
variable {s : State} {id idc crcHi crcLo : Byte} {p : List Byte} {rest : List Answer}

/-- A frame that fails a test is taken in 133 steps and answered with NAK in two, all in the packet loop. -/
theorem run_refuses_frame (hh : s.hunting) (hp : p.length = 128)
    (hrx : s.rx = (encodeUnit (.frame id idc p crcHi crcLo)).map .byte ++ rest) (hf : s.cfg.countInvalidFrames = false)
    (hbad : s.failsTest id idc crcHi crcLo p) (hw : s.writes.headD true = true) :
    ∃ t, core.run 135 s = .next t ∧ s.FramesRefused t rest 1 ∧ s.loopsFor 135 := by
  have hframe := run_takes_frame hh hp hrx
  have hv : (s.assembled id idc p crcHi crcLo rest).frameValid = false := by
    rw [State.assembled_frameValid]
    exact decide_eq_false fun ⟨hid, hidc, hcrc⟩ => by
      rcases hbad with h | h | h
      exacts [h hid, h hidc, h hcrc]
  obtain ⟨hrun, hloops⟩ := run_refuses (State.assembled_stands hh.1) hv hf hw
  refine ⟨_, (core_run_add 133 2 hframe).trans hrun, ?_,
    State.loopsFor_add (State.loopsFor_of_reads hframe (State.assembled_reads hp)) hframe hloops⟩
  refine ⟨⟨hh.1, rfl, rfl⟩, rfl, rfl, rfl, List.drop_one.symm, rfl, rfl, ?_, ?_⟩
  · exact (State.tx_of_trace (new := [.write nak true, .raised _]) rfl).trans (congrArg (· ++ [nak]) State.assembled_tx)
  · exact ((State.sinkw_of_trace (new := [.write nak true, .raised _]) rfl).trans (List.append_nil _)).trans
      State.assembled_sinkw

end

/-! ### Frames refused for ever (R137, R174) -/

section
variable {s : State} {first : Answer} {rest : List Answer}

/-- A supply of repeated answers is, to a step, the list of them with the same supply after it. -/
theorem step_repeats (hs : s.stands .turn) (hrx : s.rx = []) (hsup : s.supply = .repeats first rest) :
    step s = step { s with rx := first :: rest } := by
  have hr : ({ s with rx := first :: rest } : State).nextAnswer = some (first, rest, s.supply) :=
    State.nextAnswer_cons rfl
  rw [step_read { s with rx := first :: rest } first rest s.supply hs.1 hs.2 hr,
    step_read s first rest s.supply hs.1 hs.2 ((State.nextAnswer_repeats hrx hsup).trans hr)]

/-- And so to a run. -/
theorem core_run_repeats (n : Nat) (hs : s.stands .turn) (hrx : s.rx = []) (hsup : s.supply = .repeats first rest) :
    core.run (n + 1) s = core.run (n + 1) ({ s with rx := first :: rest } : State) := by
  have hstep : core.step s = core.step { s with rx := first :: rest } := step_repeats hs hrx hsup
  simp only [Host.Core.run, hstep]

end

section
variable {s : State} {id idc crcHi crcLo : Byte} {p : List Byte}

/-- A refused frame from a supply that offers it over and over. -/
theorem run_refuses_repeated_frame (hh : s.hunting) (hp : p.length = 128) (hrx : s.rx = [])
    (hsup : s.supply = .repeats (.byte soh) (([id, idc] ++ p ++ [crcHi, crcLo]).map .byte))
    (hf : s.cfg.countInvalidFrames = false) (hbad : s.failsTest id idc crcHi crcLo p) (hw : s.writes.headD true = true) :
    ∃ t, core.run 135 s = .next t ∧ s.FramesRefused t [] 1 ∧ s.loopsFor 135 := by
  obtain ⟨t, hrun, hst, hloops⟩ := run_refuses_frame
    (s := { s with rx := .byte soh :: ([id, idc] ++ p ++ [crcHi, crcLo]).map .byte }) (rest := [])
    hh hp (by simp [encodeUnit]) hf hbad hw
  have hturn : s.stands .turn := ⟨hh.1, hh.2.1⟩
  refine ⟨t, (core_run_repeats 134 hturn hrx hsup).trans hrun, { hst with }, fun k hk => ?_⟩
  cases k with
  | zero => exact ⟨s, rfl, hh.1⟩
  | succ k => rw [core_run_repeats k hturn hrx hsup]; exact hloops (k + 1) hk

/-- Any number of them. -/
theorem run_refuses_repeated_frames (n : Nat) (hh : s.hunting) (hp : p.length = 128) (hrx : s.rx = [])
    (hsup : s.supply = .repeats (.byte soh) (([id, idc] ++ p ++ [crcHi, crcLo]).map .byte))
    (hf : s.cfg.countInvalidFrames = false) (hbad : s.failsTest id idc crcHi crcLo p) (hw : ∀ ok ∈ s.writes, ok = true) :
    ∃ t, core.run (135 * n) s = .next t ∧ s.FramesRefused t [] n ∧ s.loopsFor (135 * n) := by
  induction n generalizing s with
  | zero =>
    have hnone : s.FramesRefused s [] 0 := ⟨hh, hrx, rfl, rfl, rfl, rfl, rfl, (List.append_nil _).symm, rfl⟩
    exact ⟨s, rfl, hnone, s.loopsFor_zero⟩
  | succ n ih =>
    have hw1 : s.writes.headD true = true := headD_of_good_writes fun ok hok => hw ok (List.mem_of_mem_take hok)
    obtain ⟨t, hrun, hst, hloops⟩ := run_refuses_repeated_frame hh hp hrx hsup hf hbad hw1
    have hbad' : t.failsTest id idc crcHi crcLo p := by
      unfold State.failsTest
      rwa [hst.expectedId]
    obtain ⟨u, hrun', htu, hloops'⟩ := ih hst.hunting hst.rx (hst.supply.trans hsup) (hst.cfg ▸ hf) hbad'
      (hst.writes ▸ fun ok hok => hw ok (List.mem_of_mem_drop hok))
    rw [Nat.mul_succ, Nat.add_comm (135 * n)]
    exact ⟨u, (core_run_add 135 _ hrun).trans hrun', Nat.add_comm 1 n ▸ hst.trans htu,
      State.loopsFor_add hloops hrun hloops'⟩

end

/-- Settles O58: one frame; and of a supply of such frames, as many as are asked for, and so many that a number of steps
lies within them. -/
theorem badFrameIsRefused : Obligations.BadFrameIsRefused := by
  refine ⟨fun s id idc crcHi crcLo p rest hh hp hrx hf hbad hw => ?_,
    fun s id idc crcHi crcLo p hh hp hrx hsup hf hbad hw => ⟨fun k => ?_, fun n => ?_⟩⟩
  · obtain ⟨t, hrun, hst, -⟩ := run_refuses_frame hh hp hrx hf hbad hw
    exact ⟨t, hrun, hst.hunting, hst.rx, hst.supply, hst.expectedId, hst.errCount, hst.tx, hst.sinkw⟩
  · obtain ⟨-, -, -, hloops⟩ := run_refuses_repeated_frames (k + 1) hh hp hrx hsup hf hbad hw
    obtain ⟨t, hrun, hc⟩ := hloops k (by omega)
    exact ⟨t, hrun, hc, by simp [State.result, hc]⟩
  · obtain ⟨t, hrun, hst, -⟩ := run_refuses_repeated_frames n hh hp hrx hsup hf hbad hw
    exact ⟨t, hrun, hst.hunting, hst.rx, hst.supply, hst.expectedId, hst.errCount, hst.tx, hst.sinkw⟩

end Sys2Proof.Machine
end

section
namespace Sys2Proof.Machine

/-! ## What raising an event does (60_exceptions.md) -/

/-- Settles O55: the two laws of `State.raise`, one for each class of event. -/
theorem raiseEndsOrRecords : Obligations.RaiseEndsOrRecords := fun s e =>
  ⟨s.raise_terminal e, s.raise_recovered e⟩

end Sys2Proof.Machine
end

section
/-! The model's choices beside the spec's own rules: refused frames that count (42_validator.md R112; log entries 9 and 10),
the other triggers of CRC.CLR and CRC.BUF (40_crc.md R81, R83; log entry 14), and what RECV takes from the state before it
(70_reset_and_hazards.md R167; log entries 2 and 3). -/

namespace Sys2Proof.Machine

/-! ### Refused frames that count (R112) -/

section
variable {s : State}

theorem exec_errInc_badFrame (hs : s.stands .invalid) (hf : s.cfg.countInvalidFrames = true) :
    exec .errInc s = .next { s with errCount := s.errCount + 1, ctl := .counted .badFrame } :=
  execErrInc_of_toCount (s.toCount_badFrame hs hf)

/-- Under the ceiling a counted frame is answered with NAK. -/
theorem exec_rspNakFrame_counted (hs : s.stands (.checked .badFrame false)) :
    exec .rspNakFrame s = .next (if s.writes.headD true = true then
      { s with ctl := .turn, writes := s.writes.tail, trace := .write nak true :: s.trace } else s.writeFails nak) :=
  whenDue_send (.inr hs)

/-- Over the ceiling a counted frame is answered with CAN, and the run ends. -/
theorem exec_rspCanNoise_counted (hs : s.stands (.checked .badFrame true)) :
    exec .rspCanNoise s = .next (if s.writes.headD true = true then
      { s with cstate := .failed .tooManyErrors, ctl := .turn, writes := s.writes.tail,
               trace := .raised (.tooManyErrors s.errCount) :: .write can true :: s.trace } else s.writeFails can) :=
  whenDue_send (.inr hs)

/-- The state after a refused frame has been counted and the count compared. -/
def State.badFrameChecked (s : State) (isOver : Bool) : State :=
  { s with errCount := s.errCount + 1, ctl := .checked .badFrame isOver, out := some (.overCeiling isOver) }

/-- From InvalidFrame two steps count the frame and compare the count. -/
theorem run_checks_badFrame (hs : s.stands .invalid) (hf : s.cfg.countInvalidFrames = true) :
    core.run 2 s = .next (s.badFrameChecked (decide (s.errCount + 1 > s.cfg.errCeiling))) := by
  have hcounts : step s = .next { s with errCount := s.errCount + 1, ctl := .counted .badFrame } := by
    rw [step_invalid hs.1 hs.2, if_pos hf, exec_errInc_badFrame hs hf]
  calc core.run 2 s
    _ = core.run 1 _ := core_run_succ 1 hcounts
    _ = .next _ := core_run_succ 0 (step_checks_count ⟨hs.1, rfl⟩)

/-- The third step is the operation that is due after the comparison. -/
theorem run_answers_badFrame {i : Instr} {t : State} {isOver : Bool} (hs : s.stands .invalid)
    (hf : s.cfg.countInvalidFrames = true) (hover : decide (s.errCount + 1 > s.cfg.errCeiling) = isOver)
    (hdue : (s.badFrameChecked isOver).due = some i) (hexec : exec i (s.badFrameChecked isOver) = .next t) :
    core.run 3 s = .next t := by
  subst hover
  calc core.run 3 s
    _ = core.run 1 _ := core_run_add 2 1 (run_checks_badFrame hs hf)
    _ = .next t := core_run_succ 0 ((step_due (s.badFrameChecked _) i hs.1 hdue).trans hexec)

end

/-- Settles O37: each operation at its point, and the three steps, by the comparison with the ceiling. -/
theorem countInvalidFramesSwitch : Obligations.CountInvalidFramesSwitch := by
  refine fun s hc => ⟨fun hp hf => exec_errInc_badFrame ⟨hc, hp⟩ hf, fun hp => exec_rspNakFrame_counted ⟨hc, hp⟩,
    fun hp => exec_rspCanNoise_counted ⟨hc, hp⟩, fun hp hf => ?_⟩
  by_cases hover : s.errCount + 1 > s.cfg.errCeiling
  · rw [if_pos hover]
    exact run_answers_badFrame ⟨hc, hp⟩ hf (decide_eq_true hover) rfl (exec_rspCanNoise_counted ⟨hc, rfl⟩)
  · rw [if_neg hover]
    exact run_answers_badFrame ⟨hc, hp⟩ hf (decide_eq_false hover) rfl (exec_rspNakFrame_counted ⟨hc, rfl⟩)

/-! ### The other triggers of CRC.CLR and CRC.BUF -/

/-- Settles O4: `EvFrame` is CRC.CLR's second trigger, and CRC.BUF has none to be outside of. -/
theorem crcClrAndBufOtherTriggers : Obligations.CrcClrAndBufOtherTriggers :=
  ⟨fun _ hc hp => whenDue_pos (.inr ⟨hc, hp⟩), fun _ _ => rfl⟩

/-! ### What RECV takes from the state before it (R167) -/

/-- RECV acts as it does from reset in the same environment: it reads no register. -/
theorem execRecv_eq_execRecv_reset (cfg : Config) (s : State) :
    execRecv cfg s = execRecv cfg { State.reset with
      rx := s.rx, supply := s.supply, avail := s.avail, writes := s.writes, sinks := s.sinks, calls := s.calls,
      trace := s.trace, draws := s.draws } := rfl

/-- Settles O29: RECV empties the buffer, and two states with one environment are one state to it. -/
theorem recvTakesNothingFromEarlierRuns : Obligations.RecvTakesNothingFromEarlierRuns := by
  refine ⟨fun cfg s t h => ?_, fun cfg s s' hrx hsupply havail hwrites hsinks hcalls htrace hdraws => ?_⟩
  · cases h
    exact Memory.read_nil
  · show execRecv cfg s = execRecv cfg s'
    rw [execRecv_eq_execRecv_reset cfg s, hrx, hsupply, havail, hwrites, hsinks, hcalls, htrace, hdraws,
      ← execRecv_eq_execRecv_reset cfg s']

end Sys2Proof.Machine
end
